-- ==== Sys2Proof/Word.lean ====
section
/-! DEFINITION. The bit words the manual treats as bits: bytes of a CAN frame, identifiers, mask and flag sets.
Every other quantity of the manual is a whole number of its step (00_scope.md, Quantities and steps) and is an Int or a Nat. -/
namespace Sys2Proof

/-- One byte of a CAN frame (R176). -/
abbrev Byte := BitVec 8

/-- An 11-bit CAN identifier (R176). -/
abbrev CanId := BitVec 11

/-- A set of the sixteen inhibit directions, as it travels (R146). -/
abbrev Mask := BitVec 16

/-- A set of the twelve notice flags, as it travels (R182). -/
abbrev FlagSet := BitVec 12

/-- A set of the three links, as a notify set travels (R150). -/
abbrev NotifySet := BitVec 3

end Sys2Proof
end

