-- ==== Sys2Proof/Syntax.lean ====
section
/-! DEFINITION. The commands: what the outside world, time and the unit's own blocks can bring about, one constructor for each row
of spec/opcode_table.json. The taking of a held request (R178) names the link alone: the request it takes is the oldest the
link's buffer holds. -/
namespace Sys2Proof

/-- The three links (R176). -/
inductive Link where
  | console
  | stability
  | recorder
  deriving DecidableEq, Repr

/-- The three axis channels (R121). -/
inductive Axis where
  | hoist
  | crowd
  | rotary
  deriving DecidableEq, Repr

/-- The two gears of the rotary drive (R133). -/
inductive Gear where
  | low
  | high
  deriving DecidableEq, Repr

/-- The two ports of the rotary motor whose pressures are sampled (R42). -/
inductive RotaryPort where
  | a
  | b
  deriving DecidableEq, Repr

/-- The two crowd cylinder pressures (R43). -/
inductive CrowdPort where
  | cap
  | rod
  deriving DecidableEq, Repr

/-- The supervised sensor inputs (R40, R41). -/
inductive SensorInput where
  | ropePayout
  | ropeTension
  | datum
  | topStop
  | sled
  | rotaryAngle
  | rotarySpeed
  | gearConfirm
  | rotaryA
  | rotaryB
  | crowdCap
  | crowdRod
  deriving DecidableEq, Repr

/-- The fault vectors in the order of R149: vectors 0 to 21 are raised by blocks, 22 and 23 are formed by the fault controller. -/
inductive FaultVector where
  | ropeEncoder
  | rotaryEncoder
  | sledSensor
  | pressureSensor
  | datumDiscrepancy
  | datumOverdue
  | envelopeLost
  | stabilityStop
  | seatEarly
  | seatAttempts
  | unseatFailed
  | chainLost
  | boreStall
  | noAdvance
  | overpull
  | slackRope
  | topStop
  | gearShift
  | surveyFailed
  | parkDisturbed
  | linkDown
  | holdInLost
  | compound
  | reactionMissing
  deriving DecidableEq, Repr

/-- A frame as it stands on a link's bus (R176). -/
structure Frame where
  /-- The 11-bit identifier. -/
  id : CanId
  /-- The data bytes, byte 0 first. -/
  data : List Byte
  deriving DecidableEq, Repr

/-- The commands. -/
inductive Instr where
  /-- POWER_ON (R185). Start of the unit from supply: every held record is cleared and every block takes its power-on values. -/
  | powerOn
  /-- RESET_INPUT_CHANGE (R166). A sample of the reset input line; a change from released to asserted takes a unit reset. -/
  | resetInputChange (asserted : Bool)
  /-- REQUEST_ARRIVAL (R178). A frame arrives on a link; a valid request is held in the request buffer, and other frames are ignored or discarded. -/
  | requestArrival (l : Link) (f : Frame)
  /-- ENVELOPE_FRAME (R140). An envelope frame on the stability link is checked, taken as fresh or repeat, clamped and handed to the limit computer. -/
  | envelopeFrame (l : Link) (f : Frame)
  /-- RESPONSE_SENT (R183). The response at the head of a link's transmit queue goes onto the bus. -/
  | responseSent (l : Link)
  /-- NOTICE_SENT (R183). A waiting notice frame goes onto the bus with the current flags, mode, sequencer state and D, and the notice count rises. -/
  | noticeSent (l : Link)
  /-- BUS_OFF (R184). A link's CAN controller goes bus-off: the link becomes DOWN, its buffer and queue are dropped, and LINK_DOWN is raised. -/
  | busOff (l : Link)
  /-- LINK_RETURN (R184). After 250 ms of bus idle a DOWN link becomes UP, LINK_STATE flags are set, and a notice may become due. -/
  | linkReturn (l : Link)
  /-- REGISTER_WRITE_OTHER (R177). A write-type request to a field without a row of its own, including read-only readouts and bad kinds, is checked and refused or answered. -/
  | registerWriteOther (l : Link)
  /-- PROFILE_FIELD_WRITE (R2). A WRITE to a scalar profile field is checked in the order of R2 and stored, making the field present. -/
  | profileFieldWrite (l : Link)
  /-- STATION_COUNT_WRITE (R8). A WRITE of an interface's station count, which makes stations at or above a lowered count absent. -/
  | stationCountWrite (l : Link)
  /-- STATION_WRITE (R8). A WRITE of a station of an interface, refused with RANGE unless its index lies below the present station count. -/
  | stationWrite (l : Link)
  /-- SLURRY_WRITE (R15). A recorder WRITE to a slurry field is clamped, stored, echoed and handed to the limit computer as a slurry change. -/
  | slurryWrite (l : Link)
  /-- MARK_DEPTH_WRITE (R57). A recorder WRITE of a mark's depth stores it and makes the mark ARMED. -/
  | markDepthWrite (l : Link)
  /-- MARK_DISARM_WRITE (R57). A recorder WRITE of a mark's disarm field makes the mark UNARMED. -/
  | markDisarmWrite (l : Link)
  /-- MARK_FIELD_WRITE (R56). A recorder WRITE of a mark's direction or action changes that field and leaves the state as it is. -/
  | markFieldWrite (l : Link)
  /-- ORDER_FIELD_WRITE (R65). A console WRITE to an order parameter, tag or gear of a CONSOLE-owned entry is checked and stored. -/
  | orderFieldWrite (l : Link)
  /-- KIND_WRITE (R65). A console WRITE of an entry's kind; a different kind makes every parameter and the gear absent. -/
  | kindWrite (l : Link)
  /-- BORE_MODE_WRITE (R65). A console WRITE of the bore mode; a different mode makes the mode-specific fields absent. -/
  | boreModeWrite (l : Link)
  /-- PLAN_WRITE (R22). A console WRITE of an ENGAGE plan length or pair, refused with RANGE when it would list an interface twice. -/
  | planWrite (l : Link)
  /-- REACTION_CLASS_WRITE (R151). A stability WRITE of a descriptor class stores the higher of the written and minimum classes. -/
  | reactionClassWrite (l : Link)
  /-- REACTION_TABLE_WRITE (R151). A stability WRITE of the table length, a present flag or a notify set while the table is UNCOMMITTED. -/
  | reactionTableWrite (l : Link)
  /-- INHIBIT_WRITE (R146). A link WRITE to its own inhibit mask makes the mask equal to the value and re-forms the union. -/
  | inhibitWrite (l : Link)
  /-- INHIBIT_SET (R146). A link SET on its own inhibit mask adds the value's directions. -/
  | inhibitSet (l : Link)
  /-- INHIBIT_CLEAR (R146). A link CLEAR on its own inhibit mask removes the value's directions. -/
  | inhibitClear (l : Link)
  /-- INHIBIT_TOGGLE (R146). A link TOGGLE on its own inhibit mask flips the value's directions. -/
  | inhibitToggle (l : Link)
  /-- NOTICE_FLAGS_WRITE (R182). A link WRITE to its own notice flags clears every flag that is clear in the value. -/
  | noticeFlagsWrite (l : Link)
  /-- NOTICE_FLAGS_CLEAR (R182). A link CLEAR on its own notice flags clears every flag in the value. -/
  | noticeFlagsClear (l : Link)
  /-- NOTICE_ENABLES_WRITE (R182). A link WRITE to its own enable set makes it equal to the value. -/
  | noticeEnablesWrite (l : Link)
  /-- NOTICE_ENABLES_SET (R182). A link SET on its own enable set adds the value's flags. -/
  | noticeEnablesSet (l : Link)
  /-- NOTICE_ENABLES_CLEAR (R182). A link CLEAR on its own enable set removes the value's flags. -/
  | noticeEnablesClear (l : Link)
  /-- NOTICE_ENABLES_TOGGLE (R182). A link TOGGLE on its own enable set flips the value's flags. -/
  | noticeEnablesToggle (l : Link)
  /-- START (R72). The console START demand sets a STOPPED sequencer RUNNING and takes the next entry, when mode and fault controller permit. -/
  | start (l : Link)
  /-- PAUSE (R73). The console PAUSE demand raises the end state to HELD, or makes a SUSPENDED sequencer HELD. -/
  | pause (l : Link)
  /-- RESUME (R74). The console RESUME demand sets a HELD or FAULTED sequencer RUNNING and takes the next entry. -/
  | resume (l : Link)
  /-- ABORT (R75). The console ABORT demand aborts the stroke in flight with end state STOPPED, or stops the sequencer at once. -/
  | abort (l : Link)
  /-- FLUSH (R76). The console FLUSH demand returns every UNIT-owned entry NOT_RUN while the sequencer is STOPPED. -/
  | flush (l : Link)
  /-- HANDOVER (R66). The console HANDOVER demand makes a complete CONSOLE-owned entry UNIT-owned, restarting a SUSPENDED sequencer at the next index. -/
  | handover (l : Link)
  /-- UNPARK (R174). The console UNPARK demand takes a STOW park to OPERATING or begins the re-seat check of a LATCH park. -/
  | unpark (l : Link)
  /-- COMMIT_REACTIONS (R152). The stability COMMIT_REACTIONS demand commits the reaction table. -/
  | commitReactions (l : Link)
  /-- RESTORE (R159). The stability RESTORE demand takes the fault controller from CUT to CLEAR when all axes are at rest. -/
  | restore (l : Link)
  /-- UNIT_RESET (R166). The stability UNIT_RESET demand is answered OK, and the reset follows once the response is sent. -/
  | unitReset (l : Link)
  /-- CLEAR_LOCKOUT_RECORD (R162). The stability CLEAR_LOCKOUT_RECORD demand makes the lockout record absent outside LOCKOUT. -/
  | clearLockoutRecord (l : Link)
  /-- COMMIT_PROFILE (R10). The recorder COMMIT_PROFILE demand runs the commit checks and commits the profile or names the first failing record. -/
  | commitProfile (l : Link)
  /-- RECONFIGURE (R14). The recorder RECONFIGURE demand returns the unit to CONFIG with the profile UNCOMMITTED and the model UNKNOWN. -/
  | reconfigure (l : Link)
  /-- ROPE_PAYOUT_SAMPLE (R48). A rope payout sample moves the rope depth, feeds the accumulator, places the unplaced length and drives the hoist rest and watches. -/
  | ropePayoutSample (count : Int)
  /-- ROPE_TENSION_SAMPLE (R20). A rope tension sample re-forms tool load and TOB and is tested by the hoist channel. -/
  | ropeTensionSample (tension : Int) (channelFirst : Bool)
  /-- DATUM_SENSOR_SAMPLE (R44). A datum sensor sample; a change from OFF to ON is a datum pass. -/
  | datumSensorSample (on : Bool)
  /-- TOP_STOP_SAMPLE (R44). A top-stop sensor sample; a change goes to the sequencer and the hoist channel's top-stop watch. -/
  | topStopSample (on : Bool)
  /-- SLED_POSITION_SAMPLE (R50). A sled position sample sets the drive depth and shares the sled motion over the kelly. -/
  | sledPositionSample (position : Int)
  /-- ROTARY_ANGLE_SAMPLE (R36). A rotary angle sample advances rotations, spring-back, turns, relief turns and the park watch. -/
  | rotaryAngleSample (angle : Int)
  /-- ROTARY_SPEED_SAMPLE (R127). A rotary speed sample judges rotary rest and feeds the stall condition. -/
  | rotarySpeedSample (speed : Int)
  /-- ROTARY_PRESSURE_SAMPLE (R42). A rotary port pressure sample forms the measured torque used for confirmations, caps and stalls. -/
  | rotaryPressureSample (port : RotaryPort) (pressure : Int)
  /-- CROWD_PRESSURE_SAMPLE (R43). A crowd cap or rod pressure sample forms the crowd force and hands it on. -/
  | crowdPressureSample (port : CrowdPort) (pressure : Int)
  /-- GEAR_CONFIRM_SAMPLE (R133). A gear confirm sample updates the held gear, ends a shift or raises GEAR_SHIFT on loss of gear. -/
  | gearConfirmSample (gear : Option Gear)
  /-- SENSOR_TIMER_EXPIRY (R41). An input's 50 ms sample timer expires, putting the input in fault and possibly raising its group vector. -/
  | sensorTimerExpiry (input : SensorInput)
  /-- STROKE_COMPLETION (R70). With the outcome decided and the axes at rest, the stroke record is written, the entry returned and the end state entered. -/
  | strokeCompletion
  /-- DEPTH_CHANGE_AT_SEQUENCER (R51). The sequencer takes a change of D and tests the stroke's target and advance. -/
  | depthChangeAtSequencer
  /-- TOB_CHANGE_AT_SEQUENCER (R85). The sequencer takes a change of TOB, which may end a DESCEND with BOTTOM. -/
  | tobChangeAtSequencer
  /-- MARK_CROSSING_TEST (R58). The mark comparator tests every ARMED mark against a change of D and makes crossed marks REACHED. -/
  | markCrossingTest
  /-- LIMIT_RECOMPUTATION (R106). The limit computer takes a trigger and forms fractions, weights, terms, limits and holdback in order. -/
  | limitRecomputation
  /-- LIMIT_SET_AT_CHANNELS (R124). The axis channels take a new limit set, clamping setpoints at once and letting them ramp up. -/
  | limitSetAtChannels
  /-- LIMIT_SET_AT_MODEL (R20). The kelly model takes a new limit set and re-forms the tool load and TOB. -/
  | limitSetAtModel
  /-- LIMIT_SET_AT_SEQUENCER (R98). The sequencer takes a new limit set, testing DOWNFORCE_SHORT and letting LOCKED crowd requests follow. -/
  | limitSetAtSequencer
  /-- UNION_AT_CHANNELS (R132). The axis channels take a changed inhibit union and apply the motion directions and GEAR_SHIFT. -/
  | unionAtChannels
  /-- UNION_AT_SEQUENCER (R79). The sequencer takes a changed inhibit union and marks a stroke whose own direction entered it as inhibited. -/
  | unionAtSequencer
  /-- MODE_CHANGE_AT_SEQUENCER (R78). The sequencer takes a unit mode change and completes a stroke in flight that the new mode does not permit. -/
  | modeChangeAtSequencer
  /-- MODE_CHANGE_AT_ENVELOPE (R143). On entry into OPERATING or SURVEY_REQUIRED with freshness LOST and latch CLEAR, ENVELOPE_LOST is raised. -/
  | modeChangeAtEnvelope
  /-- MODE_CHANGE_AT_SUPERVISION (R41). Sensor supervision starts every input clean on leaving CONFIG and stops on entering it. -/
  | modeChangeAtSupervision
  /-- MODE_CHANGE_AT_LINES (R161). The fault controller sets the pilot cut and lockout lines for the new unit mode. -/
  | modeChangeAtLines
  /-- FAULT_RAISE (R153). The fault controller takes a raise, resolves its class and notify set, sets FAULT flags and acts by its state. -/
  | faultRaise (v : FaultVector)
  /-- LOCKOUT_AT_MODE_CONTROLLER (R165). The unit mode controller takes LOCKOUT from the fault controller and makes the unit mode LOCKOUT. -/
  | lockoutAtModeController
  /-- REACTION_AT_SEQUENCER (R77). The sequencer takes a reaction class, deciding the stroke outcome and raising the end state or changing its state. -/
  | reactionAtSequencer
  /-- NORMAL_STOP (R128). A channel takes a HOLD reaction's normal stop, zeroing requests and setting the governor NORMAL. -/
  | normalStop
  /-- FAST_STOP (R129). A channel takes a fast stop, setting the governor FAST and bringing setpoints to zero within 0.3 s. -/
  | fastStop
  /-- CUT (R130). A channel takes a cut, zeroing setpoint and demand, applying its brake and setting the governor CUT. -/
  | cut
  /-- REACTION_COMPLETION (R156). With all axes at rest, setpoints zero and no rotation awaiting decision, the controller returns to CLEAR and sets REACTION_END flags. -/
  | reactionCompletion
  /-- REACTION_ENDED_AT_CHANNELS (R128). The channels take the report of a reaction's end and their governors return to FREE. -/
  | reactionEndedAtChannels
  /-- SETPOINT_REACHES_REQUEST (R125). A ramping setpoint reaches its request or zero and the channel hands that event on. -/
  | setpointReachesRequest (a : Axis)
  /-- GEAR_SHIFT_BEGIN (R134). A PENDING shift begins once the rotary is BRAKED, GEAR_SHIFT is clear and every governor FREE. -/
  | gearShiftBegin
  /-- SHIFT_TIMER_EXPIRY (R134). The 3.0 s shift timer expires before confirmation, leaving the gear unknown and raising GEAR_SHIFT. -/
  | shiftTimerExpiry
  /-- BRAKE_TIMER_EXPIRY (R131). A channel's 0.5 s brake timer expires and the channel becomes BRAKED with its brake APPLIED. -/
  | brakeTimerExpiry (a : Axis)
  /-- STALL_TIMER_EXPIRY (R135). The 1.5 s stall timer expires and the channel reports a stall to the sequencer. -/
  | stallTimerExpiry
  /-- NO_ADVANCE_WINDOW_EXPIRY (R136). The no-advance rotation time reaches 120 s, raising NO_ADVANCE and restarting the window. -/
  | noAdvanceWindowExpiry
  /-- SEAT_SETTLE_EXPIRY (R32). The 1.0 s seat settle time expires and triggers a limit recomputation without the hold-in cap. -/
  | seatSettleExpiry
  /-- RELEASE_SETTLE_EXPIRY (R33). The 1.5 s release settle time expires, and a waiting ENGAGE makes its start checks. -/
  | releaseSettleExpiry
  /-- RELEASE_DWELL_EXPIRY (R95). The 2.0 s release dwell of an auto-release expires, TOB is tested and the unseating rotation begins or fails. -/
  | releaseDwellExpiry
  /-- SLED_WATCH_EXPIRY (R90). The 10.0 s sled watch expires and the SLED or STOW sled-up ends with TIMEOUT. -/
  | sledWatchExpiry
  /-- ROTATION_TIME_LIMIT_EXPIRY (R100). A SPIN's 30.0 s rotation time limit expires, giving TIMEOUT and stopping further turns. -/
  | rotationTimeLimitExpiry
  /-- DWELL_TIME_EXPIRY (R101). A DWELL's dwell time expires and WAIT ends with outcome DONE. -/
  | dwellTimeExpiry
  /-- UNSEAT_WATCH_EXPIRY (R168). The 30.0 s survey unseat watch expires before the window is passed and raises SURVEY_FAILED. -/
  | unseatWatchExpiry
  /-- STUCK_WATCH_EXPIRY (R169). The 2.0 s stuck watch of RAISE expires, stopping the hoist and raising SURVEY_FAILED. -/
  | stuckWatchExpiry
  /-- FRESHNESS_TIMER_EXPIRY (R142). The 300 ms freshness timer expires and a FRESH envelope becomes STALE with fallback limits. -/
  | freshnessTimerExpiry
  /-- LOSS_TIMER_EXPIRY (R143). The 2,000 ms loss timer expires and the freshness becomes LOST. -/
  | lossTimerExpiry
  deriving DecidableEq, Repr

end Sys2Proof
end

