-- ==== Sys2Proof/Decode.lean ====
section
/-! DEFINITION. The commands a word spells. The table of this block gives no row any bits (each row's "fields" is empty), so no
word spells a command. -/
namespace Sys2Proof

/-- The command the bits of `w` spell: none, since spec/opcode_table.json gives no row an encoding. -/
def decodeTableWord (_nbits _w : Nat) : Option Instr := none

end Sys2Proof
end

