-- ==== Sys2Proof/Config.lean ====
section
/-! DEFINITION. The free values: what the manual leaves open and the model does not choose.
Each is an opaque constant without a body, so nothing proved of the model can rest on its value. -/
namespace Sys2Proof

/-- Which of several things that may happen next happens, on an empty queue. Applied to the count of choices made so far
(R51, R106, R147, R165: "the order in which they take it is open"; DESIGN CHOICE, log entry 3). -/
opaque Config.idleChoice : Nat → Nat

/-- Whether a setpoint that stands between two whole steps travels as the step above (true) or below (false). The manual gives a
readout of the setpoint and no rounding (R121, R176; DESIGN CHOICE, log entry 8). -/
opaque Config.setpointRoundsUp : Int → Bool

/-- Whether a stroke duration between two tenths of a second travels as the tenth above or below. The manual gives the
step and no rounding (R64; DESIGN CHOICE, log entry 9). -/
opaque Config.durationRoundsUp : Nat → Bool

/-- How a value outside the 24-bit value field travels, for a quantity other than the two rotary angles (R176; DESIGN CHOICE, log entry 10). -/
opaque Config.overlongValue : Int → BitVec 24

/-- The hoist tension setpoint on entering TENSION before any valid tension sample, in 0.1 kN, before it is placed within its
bounds (R122; DESIGN CHOICE, log entry 12). -/
opaque Config.tensionBeforeSample : Nat → Int

/-- The hoist tension request of a HANGING BORE whose holdback is still absent, in 0.1 kN, before it is placed within its
bounds (R98, R118; DESIGN CHOICE, log entry 12). -/
opaque Config.holdbackBeforeWeights : Nat → Int

end Sys2Proof
end

