-- ==== Sys2Proof/Machine/State.lean ====
section
/-! DEFINITION. The state of the unit, block by block, and its values after power-on. All of it is plain data. Quantities are
whole numbers of the manual's step (00_scope.md, Quantities and steps) unless a field says otherwise; setpoints and requests
of the channels are in the fine unit of 1/1,800,000 step (DESIGN CHOICE, log entry 7). An absent value is `none`. -/
namespace Sys2Proof.Machine

/-- Milliseconds left of a running timer; `none` when it is stopped; `some 0` when it is due. -/
abbrev Timer := Option Nat

/-- One value for each link. -/
structure PerLink (α : Type) where
  console : α
  stability : α
  recorder : α
  deriving DecidableEq, Repr

/-! ### Profile store (01_the_kelly_profile.md) -/

/-- The machine record (R4). -/
structure MachineRec where
  sledTravel : Option Int
  zTop : Option Int
  cMax : Option Int
  pMax : Option Int
  wMax : Option Int
  torqueLow : Option Int
  torqueHigh : Option Int
  constLow : Option Int
  constHigh : Option Int
  speedLow : Option Int
  speedHigh : Option Int
  winchMax : Option Int
  aCap : Option Int
  aRod : Option Int
  rDatum : Option Int
  rTop : Option Int
  deriving DecidableEq, Repr

/-- The writable fields of the kelly record (R5). -/
structure KellyRec where
  n : Option Int
  seatAngle : Option Int
  seatTol : Option Int
  holdIn : Option Int
  column : Option Int
  fallback : Option Int
  deriving DecidableEq, Repr

/-- A section record (R6). -/
structure SectionRec where
  length : Option Int
  mass : Option Int
  volume : Option Int
  torque : Option Int
  bottom : Option Int
  deriving DecidableEq, Repr

/-- An interface record with its station list (R7, R8). -/
structure InterfaceRec where
  travel : Option Int
  push : Option Int
  pull : Option Int
  count : Option Int
  stations : Vector (Option Int) 8
  deriving DecidableEq, Repr

/-- The tool record (R9). -/
structure ToolRec where
  mass : Option Int
  volume : Option Int
  height : Option Int
  deriving DecidableEq, Repr

/-- The profile and its state (R1). -/
structure Profile where
  committed : Bool
  machine : MachineRec
  kelly : KellyRec
  sections : Vector SectionRec 5
  interfaces : Vector InterfaceRec 5
  tool : ToolRec
  deriving DecidableEq, Repr

/-- The slurry record (R15). -/
structure Slurry where
  density : Int
  level : Int
  deriving DecidableEq, Repr

/-! ### Kelly model (02_engagement.md, 03_extension_and_depth.md) -/

/-- The state of an interface with the station it names (R17). -/
inductive IfState where
  | unknown
  | released
  | aligned (j : Fin 8)
  | seating (j : Fin 8)
  | engaged (j : Fin 8)
  | unseating (j : Fin 8)
  deriving DecidableEq, Repr

/-- The engagement record of one interface (R17). -/
structure IfModel where
  state : IfState
  position : Option Int
  deriving DecidableEq, Repr

/-- The two rotations of the kelly model (R24, R29). -/
inductive Sense where
  | seating
  | unseating
  deriving DecidableEq, Repr

/-- How far a rotation has come: turning in its own direction, creeping back, or confirmed and coming to rest. -/
inductive Stage where
  | turning
  | back
  | resting
  deriving DecidableEq, Repr

/-- A seating or unseating rotation in progress (R24 to R35). -/
structure Rotation where
  sense : Sense
  stage : Stage
  /-- The start angle, θ0 or φ0. -/
  origin : Option Int
  /-- The confirm torque (R24). -/
  confirm : Int
  /-- An ABORT has met the rotation (R34). -/
  aborted : Bool
  /-- A reaction or a mode change has interrupted the rotation before its result (R35, R78). -/
  interrupted : Bool
  deriving DecidableEq, Repr

/-- The kelly model and the latest valid samples it holds (R17, R20, R36, R40 to R54). -/
structure Kelly where
  known : Bool
  interfaces : Vector IfModel 5
  toolLoad : Option Int
  tob : Bool
  seatSettle : Timer
  releaseSettle : Timer
  springBack : Int
  rotation : Option Rotation
  /-- An UNSEAT_FAILED to be raised when the aborted stroke has ended (R34). -/
  unseatFailedDue : Bool
  ropeBaseline : Option Int
  sled : Option Int
  angle : Option Int
  speed : Option Int
  tension : Option Int
  pressA : Option Int
  pressB : Option Int
  pressCap : Option Int
  pressRod : Option Int
  torque : Option Int
  crowdForce : Option Int
  datumState : Option Bool
  ropeDepth : Option Int
  latch : Bool
  accumulator : Int
  debt : Int
  deriving DecidableEq, Repr

/-! ### Mark comparator (03_extension_and_depth.md, R56) -/

inductive MarkDirection where
  | down
  | up
  deriving DecidableEq, Repr

inductive MarkAction where
  | note
  | endStroke
  | hold
  deriving DecidableEq, Repr

inductive MarkState where
  | unarmed
  | armed
  | reached
  deriving DecidableEq, Repr

/-- A depth mark (R56). -/
structure Mark where
  depth : Int
  direction : MarkDirection
  action : MarkAction
  state : MarkState
  deriving DecidableEq, Repr

/-! ### Stroke ring and sequencer (04_the_stroke_ring.md, 05_stroke_kinds.md) -/

/-- The party that may change an entry (R62). -/
inductive Owner where
  | console
  | unit
  deriving DecidableEq, Repr

/-- Order kinds, in the order of R63. -/
inductive Kind where
  | none
  | descend
  | hoist
  | sled
  | engage
  | release
  | bore
  | spin
  | dwell
  | survey
  | park
  deriving DecidableEq, Repr

inductive BoreMode where
  | locked
  | hanging
  deriving DecidableEq, Repr

inductive ParkKind where
  | stow
  | latch
  deriving DecidableEq, Repr

/-- One pair of an engagement plan (R22). -/
structure PlanPair where
  iface : Option Int
  station : Option Int
  deriving DecidableEq, Repr

/-- The order part of an entry (R63). -/
structure Order where
  kind : Kind
  tag : Int
  gear : Option Gear
  targetDepth : Option Int
  toTop : Option Bool
  winchSpeed : Option Int
  sledTarget : Option Int
  sledSpeed : Option Int
  boreMode : Option BoreMode
  advance : Option Int
  rotarySpeed : Option Int
  push : Option Int
  downforce : Option Int
  autoRelease : Option Bool
  cycles : Option Int
  dwell : Option Int
  parkKind : Option ParkKind
  planLength : Option Int
  pairs : Vector PlanPair 5
  deriving DecidableEq, Repr

/-- Outcomes, in the order of R71. -/
inductive Outcome where
  | done
  | target
  | bottom
  | top
  | sledEnd
  | timeout
  | mark
  | refused
  | aborted
  | heldByFault
  | faulted
  | notRun
  | reset
  deriving DecidableEq, Repr

/-- Reasons of a completion part (R64): a fault vector or a named reason. -/
inductive Reason where
  | fault (v : FaultVector)
  | mode
  | inhibited
  | modelUnknown
  | chain
  | notOnBottom
  | planMismatch
  | notAligned
  | overweight
  | clearance
  | park
  deriving DecidableEq, Repr

/-- The figures of a stroke record (R64). -/
structure Figures where
  startDepth : Option Int
  endDepth : Option Int
  peakPush : Int
  peakPull : Int
  peakTorque : Int
  peakTension : Int
  stallCount : Nat
  seatAttempts : Nat
  durationMs : Nat
  clamped : Bool
  depthUncertain : Bool
  downforceShort : Bool
  releasedAfter : Bool
  deriving DecidableEq, Repr

/-- The completion part of an entry (R64): the figures are absent for an entry returned unrun. -/
structure Completion where
  outcome : Outcome
  reason : Option Reason
  figures : Option Figures
  deriving DecidableEq, Repr

/-- An entry of the ring (R62). -/
structure Entry where
  owner : Owner
  order : Order
  completion : Option Completion
  deriving DecidableEq, Repr

/-- Phases, in the order of their codes (R81). -/
inductive Phase where
  | run
  | rampDown
  | move
  | settleWait
  | seating
  | creepBack
  | crowdDown
  | unseating
  | gear
  | rampUp
  | advance
  | releaseDwell
  | turnCw
  | turnCcw
  | wait
  | unseat
  | raise
  | nest
  | sledUp
  | brake
  | holdIn
  deriving DecidableEq, Repr

/-- Sequencer states, in the order of R176. -/
inductive SeqState where
  | stopped
  | running
  | suspended
  | held
  | faulted
  deriving DecidableEq, Repr

/-- End states in their rank (R67). -/
inductive EndState where
  | running
  | held
  | stopped
  | faulted
  deriving DecidableEq, Repr

/-- The park reference readings (R164). -/
structure ParkRefs where
  rope : Option Int
  sled : Option Int
  angle : Option Int
  deriving DecidableEq, Repr

/-- The stroke in flight with its record and working values (R64, R67, R82). -/
structure Stroke where
  index : Fin 32
  phase : Phase
  outcome : Option Outcome
  reason : Option Reason
  endState : EndState
  /-- The inhibited mark of R79. -/
  inhibited : Bool
  /-- No phase is left to run: the stroke completes at rest (R70). -/
  closed : Bool
  /-- A reaction or an ABORT has met the stroke, so no phase that has not begun is run (R75, R77). -/
  met : Bool
  figures : Figures
  /-- Working winch speed, sled target, advance and rotary speed (R82). -/
  winchSpeed : Int
  sledTarget : Int
  advance : Int
  advanceClamped : Bool
  rotarySpeed : Int
  /-- Advance origin D_a (R94). -/
  origin : Option Int
  /-- RAMP_DOWN of a LOCKED BORE has sent the crowd to zero (R95). -/
  unloading : Bool
  /-- The turn in progress of a SPIN: its start angle and whether its request has gone to zero (R99). -/
  turnOrigin : Option Int
  turnStopping : Bool
  cyclesLeft : Nat
  rotationLimit : Timer
  /-- The sled watch and its reference position (R90). -/
  sledWatch : Timer
  sledRef : Int
  /-- Dwell time of a DWELL (R101) and release dwell of an auto-release (R95). -/
  dwell : Timer
  releaseDwell : Timer
  /-- The UNSEAT creep of a SURVEY: its start angle, confirm torque, whether the window is passed, and its watch (R168). -/
  unseatOrigin : Option Int
  unseatConfirm : Int
  unseatPassed : Bool
  unseatWatch : Timer
  /-- RAISE of a SURVEY: the winch has been sent to zero by the top stop; the stuck watch and its count (R169). -/
  raiseStopping : Bool
  stuckWatch : Timer
  stuckCount : Option Int
  /-- The window watch of a HANGING BORE runs: from the start of RAMP_UP until the rotary is at rest in RAMP_DOWN (R97). -/
  windowWatch : Bool
  /-- References recorded when a PARK's DONE was decided (R172). -/
  parkDue : Option ParkRefs
  deriving DecidableEq, Repr

/-- The sequencer (R67). -/
structure Sequencer where
  state : SeqState
  next : Fin 32
  stroke : Option Stroke
  deriving DecidableEq, Repr

/-! ### Limit computer (06_drive_limits.md) -/

/-- What set the push limit, in the order of R114. -/
inductive Binding where
  | unknown
  | chain
  | stop
  | settle
  | debt
  | structural
  | buckling
  | envelope
  | fallback
  | machine
  deriving DecidableEq, Repr

/-- The limit set and its terms (R104). -/
structure LimitSet where
  push : Int
  pull : Int
  torque : Int
  hoistLine : Int
  rotationCap : Int
  holdback : Option Int
  wTotal : Option Int
  pushMargin : Option Int
  pullMargin : Option Int
  freeLength : Option Int
  buckling : Option Int
  ePush : Option Int
  ePull : Option Int
  eTorque : Option Int
  binding : Binding
  weights : Vector (Option Int) 5
  toolWeight : Option Int
  fractions : Vector (Option Int) 5
  toolFraction : Option Int
  deriving DecidableEq, Repr

/-- The dry weights (R110). -/
structure DryWeights where
  sections : Vector (Option Int) 5
  tool : Option Int
  total : Option Int
  deriving DecidableEq, Repr

/-- The limit computer (R104, R110, R118, R119). -/
structure Limits where
  set : LimitSet
  dry : DryWeights
  holdInLost : Bool
  downforce : Option Int
  unseatPhase : Bool
  deriving DecidableEq, Repr

/-! ### Axis channels (07_axis_channels.md) -/

/-- Channel modes: BRAKED and the working modes of R122. -/
inductive ChannelMode where
  | braked
  | speed
  | tension
  | force
  | position
  | creep
  deriving DecidableEq, Repr

/-- Governors (R121). -/
inductive Governor where
  | free
  | normal
  | fast
  | cut
  deriving DecidableEq, Repr

/-- A channel record (R121). -/
structure Channel where
  mode : ChannelMode
  /-- In the fine unit. -/
  request : Int
  /-- In the fine unit. -/
  setpoint : Int
  /-- Per-mille of full scale. -/
  demand : Int
  cap : Option Int
  /-- The magnitude of the load while it is at or above the cap (R126). -/
  overload : Option Int
  atRest : Bool
  brake : Timer
  brakeApplied : Bool
  /-- A phase request stands (R70). -/
  standing : Bool
  /-- The setpoint has come to its request or to zero and the event is not handed on yet (R125). -/
  reached : Bool
  /-- The fall of a fast stop, in fine units a millisecond (R129). -/
  fastRate : Int
  deriving DecidableEq, Repr

/-- The shift state with the gear it names (R134). -/
inductive Shift where
  | idle
  | pending (g : Gear)
  | shifting (g : Gear)
  deriving DecidableEq, Repr

/-- The steps of a relief turn (R135): coming to rest, turning anticlockwise, coming to rest again. -/
inductive ReliefStage where
  | stopping
  | turning
  | unwinding
  deriving DecidableEq, Repr

structure Relief where
  stage : ReliefStage
  origin : Option Int
  deriving DecidableEq, Repr

/-- The no-advance window D_w, t_w (R136); t_w in milliseconds. -/
structure Window where
  origin : Option Int
  time : Nat
  deriving DecidableEq, Repr

/-- The sled target and speed of a crowd in POSITION (R122). -/
structure SledGoal where
  target : Int
  speed : Int
  deriving DecidableEq, Repr

/-- The channels and what they hold together (R121, R133 to R137). -/
structure Axes where
  hoist : Channel
  crowd : Channel
  rotary : Channel
  governor : Governor
  sledGoal : Option SledGoal
  keptTension : Option Int
  gear : Option Gear
  shift : Shift
  queuedShift : Option Gear
  shiftTimer : Timer
  valve : Option Gear
  stallTimer : Timer
  relief : Option Relief
  window : Option Window
  slackLatch : Bool
  overpullLatch : Bool
  topLatch : Bool
  topCount : Option Int
  topState : Option Bool
  /-- The limit set and the mask union as the channels last took them (R106, R147). -/
  limits : LimitSet
  union : Mask
  /-- Milliseconds since the last valid rope and sled samples (R127). -/
  sinceRope : Nat
  sinceSled : Nat
  deriving DecidableEq, Repr

/-! ### Envelope receiver (08_stability_envelope_and_inhibits.md) -/

inductive Stability where
  | normal
  | restricted
  | stop
  deriving DecidableEq, Repr

inductive Freshness where
  | fresh
  | stale
  | lost
  deriving DecidableEq, Repr

/-- The envelope record (R139). -/
structure EnvRecord where
  sequence : Nat
  state : Stability
  push : Int
  pull : Int
  torque : Int
  deriving DecidableEq, Repr

/-- The envelope receiver (R139). -/
structure Envelope where
  record : Option EnvRecord
  freshness : Freshness
  freshTimer : Timer
  lossTimer : Timer
  lossLatch : Bool
  stopLatch : Bool
  deriving DecidableEq, Repr

/-! ### Fault controller (09_fault_reactions.md) -/

/-- Reaction classes, in their rank (R149). -/
inductive ReactionClass where
  | announce
  | hold
  | halt
  | cut
  deriving DecidableEq, Repr

/-- A descriptor of the reaction table (R150). -/
structure Descriptor where
  present : Bool
  cls : ReactionClass
  notify : NotifySet
  deriving DecidableEq, Repr

inductive ControllerState where
  | clear
  | reacting
  | compound
  | cut
  | lockout
  deriving DecidableEq, Repr

/-- The reaction context (R155). -/
structure Context where
  serviceVector : FaultVector
  serviceClass : ReactionClass
  firstVector : FaultVector
  firstRaised : FaultVector
  firstClass : ReactionClass
  secondVector : Option FaultVector
  secondRaised : Option FaultVector
  thirdVector : Option FaultVector
  laterCount : Nat
  lastLater : Option FaultVector
  ringIndex : Option (Fin 32)
  phase : Option Phase
  depth : Option Int
  crowdForce : Option Int
  torque : Option Int
  tension : Option Int
  deriving DecidableEq, Repr

/-- The lockout record (R160). -/
structure LockoutRecord where
  first : FaultVector
  compounding : Option FaultVector
  locking : FaultVector
  depth : Option Int
  deriving DecidableEq, Repr

/-- The last fault readout (R149). -/
structure LastFault where
  vector : FaultVector
  cls : ReactionClass
  depth : Option Int
  deriving DecidableEq, Repr

/-- The fault controller with its two lines (R150, R155, R161, R162). -/
structure Faults where
  committed : Bool
  length : Nat
  descriptors : Vector Descriptor 22
  state : ControllerState
  context : Option Context
  lockoutRecord : Option LockoutRecord
  lastFault : Option LastFault
  pilotCut : Bool
  lockoutLine : Bool
  deriving DecidableEq, Repr

/-! ### Unit mode controller (10_survey_parking_and_unit_modes.md) -/

/-- Unit modes, in the order of R176. -/
inductive UnitMode where
  | config
  | surveyRequired
  | operating
  | parked
  | lockout
  deriving DecidableEq, Repr

/-- The park kind and the reference readings, present together while the mode is PARKED (R164). -/
structure Park where
  kind : ParkKind
  refs : ParkRefs
  deriving DecidableEq, Repr

/-- The re-seat state (R164), with the progress of a check (R175). -/
inductive Reseat where
  | idle
  | checking (confirm : Int) (confirmed : Bool) (interrupted : Bool)
  deriving DecidableEq, Repr

/-- The mode record (R164) and the crowd request the controller holds for a LATCH park (R172). -/
structure ModeCtl where
  mode : UnitMode
  park : Option Park
  reseat : Reseat
  latchRequest : Bool
  deriving DecidableEq, Repr

/-! ### Sensor supervision (R41) -/

structure InputState where
  timer : Timer
  fault : Bool
  deriving DecidableEq, Repr

structure Supervision where
  active : Bool
  inputs : Vector InputState 12
  deriving DecidableEq, Repr

/-! ### Link controllers (11_the_links.md) -/

/-- A request as a link controller holds it (R176): the bytes by their meaning, the value read as signed. -/
structure Request where
  tag : Byte
  kind : Nat
  object : Nat
  sub : Nat
  value : Int
  deriving DecidableEq, Repr

/-- Results, in the order of their codes (R176). -/
inductive Result where
  | ok
  | access
  | range
  | state
  | owned
  | noObject
  | busy
  deriving DecidableEq, Repr

/-- A response (R176). `resets` marks the response after which a unit reset is taken (R166). -/
structure Response where
  tag : Byte
  result : Result
  object : Nat
  sub : Nat
  value : Int
  resets : Bool
  deriving DecidableEq, Repr

/-- An element of a transmit queue (R183): a notice takes its contents when it goes onto the bus. -/
inductive TxFrame where
  | response (r : Response)
  | notice
  deriving DecidableEq, Repr

/-- A link controller (R178, R182 to R184). -/
structure LinkCtl where
  buffer : List Request
  queue : List TxFrame
  flags : FlagSet
  enables : FlagSet
  count : BitVec 8
  up : Bool
  idle : Timer
  /-- The last frame put onto the bus. -/
  bus : Option Frame
  deriving DecidableEq, Repr

/-! ### Hand-offs between blocks (R51, R106, R147, R149, R154, R165) -/

/-- A change of the tool depth with its old and new values (R51). -/
structure DepthChange where
  old : Int
  new : Int
  deriving DecidableEq, Repr

/-- What started a recomputation (R105). -/
inductive Trigger where
  | engagement
  | band
  | debt
  | settle
  | slurry
  | envelope
  | gear
  | unseat
  deriving DecidableEq, Repr

/-- A raise on its way to the fault controller (R149). `decision` marks one declared by the decision of an interrupted rotation,
which must reach the controller before the reaction completes (R156). -/
structure Raise where
  vector : FaultVector
  depth : Option Int
  decision : Bool
  deriving DecidableEq, Repr

/-- A reaction on its way to the sequencer (R154): class, or COMPOUND, and the vector in service. -/
inductive ReactionMsg where
  | hold (v : FaultVector)
  | stop (v : FaultVector)
  deriving DecidableEq, Repr

/-- What the fault controller tells the channels (R128 to R130), in the order it said it. -/
inductive ChannelOrder where
  | normalStop
  | fastStop
  | cut
  | ended
  deriving DecidableEq, Repr

/-- A change of the unit mode (R165). -/
structure ModeChange where
  old : UnitMode
  new : UnitMode
  deriving DecidableEq, Repr

/-- The hand-offs not taken yet, oldest first. -/
structure Mail where
  depthSeq : List DepthChange
  depthMark : List DepthChange
  tobSeq : List Bool
  triggers : List Trigger
  limitAxes : List LimitSet
  limitSeq : List LimitSet
  limitModel : Nat
  unionAxes : List Mask
  unionSeq : List Mask
  modeSeq : List ModeChange
  modeEnv : List ModeChange
  modeSup : List ModeChange
  modeLines : List ModeChange
  raises : List Raise
  lockout : Nat
  reactions : List ReactionMsg
  orders : List ChannelOrder
  deriving DecidableEq, Repr

/-! ### The unit -/

/-- The whole state of the unit, with the queue of commands that wait. -/
structure State where
  /-- Commands waiting, first in, first out. -/
  pending : List Instr
  profile : Profile
  slurry : Slurry
  kelly : Kelly
  marks : Vector Mark 8
  ring : Vector Entry 32
  seq : Sequencer
  limits : Limits
  axes : Axes
  env : Envelope
  masks : PerLink Mask
  faults : Faults
  ctl : ModeCtl
  sup : Supervision
  links : PerLink LinkCtl
  mail : Mail
  /-- Last state of the reset input line (R166). -/
  resetLine : Option Bool
  /-- How many free choices the idle step has made (DESIGN CHOICE, log entry 3). -/
  free : Nat
  deriving DecidableEq, Repr

/-- The faults a step can stop with: none. Every command of the table answers a next state; what the manual calls a fault is a
raise to the fault controller (R149), an effect on the state. -/
inductive Fault where
  deriving DecidableEq, Repr

/-- The refusals of the model. -/
inductive Refusal where
  /-- Raised by an arm of `exec` whose command has no meaning yet; safe, since nothing is claimed of it. No arm raises it. -/
  | notModelled (mnemonic : String)
  deriving DecidableEq, Repr

/-! ### Values after power-on -/

/-- The profile after power-on (R16). -/
def Profile.reset : Profile where
  committed := false
  machine := ⟨none, none, none, none, none, none, none, none, none, none, none, none, none, none, none, none⟩
  kelly := ⟨none, none, none, none, none, none⟩
  sections := Vector.replicate 5 ⟨none, none, none, none, none⟩
  interfaces := Vector.replicate 5 ⟨none, none, none, none, Vector.replicate 8 none⟩
  tool := ⟨none, none, none⟩

/-- The slurry record after power-on (R16). -/
def Slurry.reset : Slurry := ⟨1000, 0⟩

/-- The kelly model after either reset (R39, R60). -/
def Kelly.reset : Kelly where
  known := false
  interfaces := Vector.replicate 5 ⟨.unknown, none⟩
  toolLoad := none
  tob := false
  seatSettle := none
  releaseSettle := none
  springBack := 0
  rotation := none
  unseatFailedDue := false
  ropeBaseline := none
  sled := none
  angle := none
  speed := none
  tension := none
  pressA := none
  pressB := none
  pressCap := none
  pressRod := none
  torque := none
  crowdForce := none
  datumState := none
  ropeDepth := none
  latch := false
  accumulator := 0
  debt := 0

/-- A depth mark after power-on (R61). -/
def Mark.reset : Mark := ⟨0, .down, .note, .unarmed⟩

/-- An order part with every field but the kind and the tag absent (R63). -/
def Order.blank (k : Kind) (tag : Int) : Order where
  kind := k
  tag := tag
  gear := none
  targetDepth := none
  toTop := none
  winchSpeed := none
  sledTarget := none
  sledSpeed := none
  boreMode := none
  advance := none
  rotarySpeed := none
  push := none
  downforce := none
  autoRelease := none
  cycles := none
  dwell := none
  parkKind := none
  planLength := none
  pairs := Vector.replicate 5 ⟨none, none⟩

/-- A ring entry after power-on (R80). -/
def Entry.reset : Entry := ⟨.console, Order.blank .none 0, none⟩

/-- The sequencer after either reset (R80). -/
def Sequencer.reset : Sequencer := ⟨.stopped, 0, none⟩

/-- The limit set while the model is UNKNOWN outside a SURVEY's UNSEAT phase (R104, R120). -/
def LimitSet.unknown : LimitSet where
  push := 0
  pull := 0
  torque := 0
  hoistLine := 0
  rotationCap := 0
  holdback := none
  wTotal := none
  pushMargin := none
  pullMargin := none
  freeLength := none
  buckling := none
  ePush := none
  ePull := none
  eTorque := none
  binding := .unknown
  weights := Vector.replicate 5 none
  toolWeight := none
  fractions := Vector.replicate 5 none
  toolFraction := none

/-- No dry weights: the profile is UNCOMMITTED (R110). -/
def DryWeights.absent : DryWeights := ⟨Vector.replicate 5 none, none, none⟩

/-- The limit computer after power-on (R120). -/
def Limits.reset : Limits := ⟨LimitSet.unknown, DryWeights.absent, false, none, false⟩

/-- A channel record after either reset (R138). -/
def Channel.reset : Channel where
  mode := .braked
  request := 0
  setpoint := 0
  demand := 0
  cap := none
  overload := none
  atRest := false
  brake := none
  brakeApplied := true
  standing := false
  reached := false
  fastRate := 0

/-- The channels after power-on (R138). -/
def Axes.reset : Axes where
  hoist := Channel.reset
  crowd := Channel.reset
  rotary := Channel.reset
  governor := .free
  sledGoal := none
  keptTension := none
  gear := none
  shift := .idle
  queuedShift := none
  shiftTimer := none
  valve := none
  stallTimer := none
  relief := none
  window := none
  slackLatch := false
  overpullLatch := false
  topLatch := false
  topCount := none
  topState := none
  limits := LimitSet.unknown
  union := 0
  sinceRope := 0
  sinceSled := 0

/-- The envelope receiver after either reset, with the record it keeps (R145). -/
def Envelope.reset (r : Option EnvRecord) : Envelope := ⟨r, .stale, some 300, some 2000, false, false⟩

/-- The minimum class of a vector (R149); COMPOUND and REACTION_MISSING are fixed at HALT. -/
def minClass : FaultVector → ReactionClass
  | .ropeEncoder => .halt
  | .rotaryEncoder => .halt
  | .sledSensor => .halt
  | .pressureSensor => .halt
  | .datumDiscrepancy => .hold
  | .datumOverdue => .announce
  | .envelopeLost => .halt
  | .stabilityStop => .halt
  | .seatEarly => .hold
  | .seatAttempts => .hold
  | .unseatFailed => .hold
  | .chainLost => .halt
  | .boreStall => .announce
  | .noAdvance => .announce
  | .overpull => .halt
  | .slackRope => .hold
  | .topStop => .halt
  | .gearShift => .hold
  | .surveyFailed => .hold
  | .parkDisturbed => .hold
  | .linkDown => .hold
  | .holdInLost => .hold
  | .compound => .halt
  | .reactionMissing => .halt

/-- The vectors in the order of their numbers (R149). -/
def vectorList : List FaultVector :=
  [.ropeEncoder, .rotaryEncoder, .sledSensor, .pressureSensor, .datumDiscrepancy, .datumOverdue, .envelopeLost, .stabilityStop,
   .seatEarly, .seatAttempts, .unseatFailed, .chainLost, .boreStall, .noAdvance, .overpull, .slackRope, .topStop, .gearShift,
   .surveyFailed, .parkDisturbed, .linkDown, .holdInLost, .compound, .reactionMissing]

/-- The vector of a descriptor number (R150). -/
def vectorOfNat (v : Nat) : FaultVector := vectorList.getD v .reactionMissing

/-- The fault controller after power-on (R150, R163): the pilot cut is asserted, the unit being in CONFIG. -/
def Faults.reset : Faults where
  committed := false
  length := 0
  descriptors := Vector.ofFn fun v => ⟨false, minClass (vectorOfNat v.val), 0⟩
  state := .clear
  context := none
  lockoutRecord := none
  lastFault := none
  pilotCut := true
  lockoutLine := false

/-- The mode record after power-on (R164). -/
def ModeCtl.reset : ModeCtl := ⟨.config, none, .idle, false⟩

/-- Sensor supervision, every input clean, running or not (R41, R60). -/
def Supervision.clean (active : Bool) : Supervision := ⟨active, Vector.replicate 12 ⟨some 50, false⟩⟩

/-- A link controller after power-on (R185). -/
def LinkCtl.reset : LinkCtl := ⟨[], [], 0, 0, 0, true, none, none⟩

/-- No hand-off waits. -/
def Mail.empty : Mail := ⟨[], [], [], [], [], [], 0, [], [], [], [], [], [], [], 0, [], []⟩

/-- The unit after power-on: every block at the value its chapter states (R16, R39, R60, R61, R80, R120, R138, R145, R148, R163,
R164, R185). -/
def State.reset : State where
  pending := []
  profile := Profile.reset
  slurry := Slurry.reset
  kelly := Kelly.reset
  marks := Vector.replicate 8 Mark.reset
  ring := Vector.replicate 32 Entry.reset
  seq := Sequencer.reset
  limits := Limits.reset
  axes := Axes.reset
  env := Envelope.reset none
  masks := ⟨0, 0, 0⟩
  faults := Faults.reset
  ctl := ModeCtl.reset
  sup := Supervision.clean false
  links := ⟨LinkCtl.reset, LinkCtl.reset, LinkCtl.reset⟩
  mail := Mail.empty
  resetLine := none
  free := 0

end Sys2Proof.Machine
end

