-- ==== Sys2Proof/Machine/Operands.lean ====
section
/-! DEFINITION. Reading operands: rounding as the manual names it (00_scope.md, Rounding), access by link and by index, the
profile's figures, and the depths that follow from the depth record (R46). -/
namespace Sys2Proof.Machine

/-! ### Rounding and clamping -/

/-- "Rounded half up": a value exactly halfway goes to the larger step. `den` is positive. -/
def roundHalfUp (num den : Int) : Int := (2 * num + den) / (2 * den)

/-- The magnitude is rounded half up and the sign is kept (R42, R43). -/
def roundMagnitude (num den : Int) : Int :=
  if num < 0 then -roundHalfUp (-num) den else roundHalfUp num den

/-- Placed within `[lo, hi]`. -/
def clampTo (lo hi x : Int) : Int := max lo (min hi x)

/-- The magnitude of a quantity. -/
def magnitude (x : Int) : Int := if x < 0 then -x else x

/-- Fine units in one step of a setpoint (DESIGN CHOICE, log entry 7). -/
def fine : Int := 1800000

/-! ### Access by link and by index -/

/-- The value of one link. -/
def PerLink.get {α : Type} (p : PerLink α) : Link → α
  | .console => p.console
  | .stability => p.stability
  | .recorder => p.recorder

/-- Change the value of one link. -/
def PerLink.modify {α : Type} (p : PerLink α) (l : Link) (f : α → α) : PerLink α :=
  match l with
  | .console => { p with console := f p.console }
  | .stability => { p with stability := f p.stability }
  | .recorder => { p with recorder := f p.recorder }

/-- Change the values of all three links. -/
def PerLink.map {α : Type} (p : PerLink α) (f : α → α) : PerLink α := ⟨f p.console, f p.stability, f p.recorder⟩

/-- An index as a bounded number. -/
def fin? (n k : Nat) : Option (Fin n) := if h : k < n then some ⟨k, h⟩ else none

/-- The channel of an axis. -/
def Axes.get (a : Axes) : Axis → Channel
  | .hoist => a.hoist
  | .crowd => a.crowd
  | .rotary => a.rotary

/-- Change the channel of an axis. -/
def Axes.modify (a : Axes) (x : Axis) (f : Channel → Channel) : Axes :=
  match x with
  | .hoist => { a with hoist := f a.hoist }
  | .crowd => { a with crowd := f a.crowd }
  | .rotary => { a with rotary := f a.rotary }

/-- The place of a supervised input. -/
def inputIndex : SensorInput → Fin 12
  | .ropePayout => 0
  | .ropeTension => 1
  | .datum => 2
  | .topStop => 3
  | .sled => 4
  | .rotaryAngle => 5
  | .rotarySpeed => 6
  | .gearConfirm => 7
  | .rotaryA => 8
  | .rotaryB => 9
  | .crowdCap => 10
  | .crowdRod => 11

/-- The supervision group of an input, by the vector it raises (R41). -/
def groupVector : SensorInput → FaultVector
  | .ropePayout => .ropeEncoder
  | .ropeTension => .ropeEncoder
  | .datum => .ropeEncoder
  | .topStop => .ropeEncoder
  | .rotaryAngle => .rotaryEncoder
  | .rotarySpeed => .rotaryEncoder
  | .gearConfirm => .rotaryEncoder
  | .sled => .sledSensor
  | .rotaryA => .pressureSensor
  | .rotaryB => .pressureSensor
  | .crowdCap => .pressureSensor
  | .crowdRod => .pressureSensor

/-- Every supervised input. -/
def allInputs : List SensorInput :=
  [.ropePayout, .ropeTension, .datum, .topStop, .sled, .rotaryAngle, .rotarySpeed, .gearConfirm, .rotaryA, .rotaryB, .crowdCap,
   .crowdRod]

/-- The input is in fault (R41). -/
def Supervision.inFault (u : Supervision) (i : SensorInput) : Bool := u.inputs[inputIndex i].fault

/-! ### The profile's figures

A committed profile holds every figure the rules use (R11). A figure read while it is absent is 0: no rule takes a figure from an
UNCOMMITTED profile (R1). -/

/-- A figure of the profile (DEDUCED, log entry 32). -/
def fig (x : Option Int) : Int := x.getD 0

/-- The committed section count n (R5). -/
def Profile.count (p : Profile) : Nat := (fig p.kelly.n).toNat

/-- Sections or interfaces 0 to n−1. -/
def Profile.members (p : Profile) : List (Fin 5) := (List.finRange 5).filter fun k => k.val < p.count

/-- The innermost section Sn. -/
def Profile.innermost (p : Profile) : SectionRec :=
  (p.sections[p.count - 1]?).getD ⟨none, none, none, none, none⟩

/-- Nested reach N0 (R12). -/
def Profile.nestedReach (p : Profile) : Int := fig p.innermost.bottom + fig p.tool.height

/-- Innermost-top-to-tool-tip offset J (R12). -/
def Profile.topToTip (p : Profile) : Int := fig p.innermost.length + fig p.tool.height

/-- Seat angle and seat tolerance (R5). -/
def Profile.seat (p : Profile) : Int := fig p.kelly.seatAngle
def Profile.tol (p : Profile) : Int := fig p.kelly.seatTol

/-- Hold-in force (R5). -/
def Profile.holdIn (p : Profile) : Int := fig p.kelly.holdIn

/-- Travel of interface k (R7). -/
def Profile.travel (p : Profile) (k : Fin 5) : Int := fig p.interfaces[k].travel

/-- The stations of interface k with their indexes (R8). -/
def Profile.stations (p : Profile) (k : Fin 5) : List (Fin 8 × Int) :=
  ((List.finRange 8).filter fun j => (j.val : Int) < fig p.interfaces[k].count).filterMap fun j =>
    (p.interfaces[k].stations[j]).map fun x => (j, x)

/-- The smallest of a list, 0 for none. -/
def least : List Int → Int
  | [] => 0
  | x :: xs => xs.foldl min x

/-- The smallest torque rating among S1 to Sn (R24). -/
def Profile.leastTorque (p : Profile) : Int := least (p.members.map fun k => fig p.sections[k].torque)

/-- The seat confirm torque: 5 % of the smallest section rating, rounded half up to 0.1 kNm (R24). -/
def Profile.confirmTorque (p : Profile) : Int := roundHalfUp (5 * p.leastTorque) 100

/-- The maximum rotary speed of a gear (R4). -/
def Profile.rotaryMax (p : Profile) : Gear → Int
  | .low => fig p.machine.speedLow
  | .high => fig p.machine.speedHigh

/-- The drive torque rating of a gear (R4). -/
def Profile.driveTorque (p : Profile) : Gear → Int
  | .low => fig p.machine.torqueLow
  | .high => fig p.machine.torqueHigh

/-- The gear torque constant (R4), in 0.01 kNm/bar. -/
def Profile.gearConst (p : Profile) : Gear → Int
  | .low => fig p.machine.constLow
  | .high => fig p.machine.constHigh

/-! ### Interface states (R17) -/

/-- RELEASED and ALIGNED are the released states. -/
def IfState.isReleased : IfState → Bool
  | .released => true
  | .aligned _ => true
  | _ => false

def IfState.isAligned : IfState → Bool
  | .aligned _ => true
  | _ => false

def IfState.isSeating : IfState → Bool
  | .seating _ => true
  | _ => false

def IfState.isEngaged : IfState → Bool
  | .engaged _ => true
  | _ => false

def IfState.isUnseating : IfState → Bool
  | .unseating _ => true
  | _ => false

/-- The station an interface names. -/
def IfState.station : IfState → Option (Fin 8)
  | .aligned j => some j
  | .seating j => some j
  | .engaged j => some j
  | .unseating j => some j
  | _ => none

/-- The state of interface k. -/
def Kelly.st (m : Kelly) (k : Fin 5) : IfState := m.interfaces[k].state

/-- The position of interface k; 0 while absent. -/
def Kelly.pos (m : Kelly) (k : Fin 5) : Int := m.interfaces[k].position.getD 0

/-- The chain is fully engaged: the model is known and every interface 0 to n−1 is ENGAGED (R17). -/
def State.chainEngaged (s : State) : Bool := s.kelly.known && s.profile.members.all fun k => (s.kelly.st k).isEngaged

/-- Every interface 0 to n−1 is in a released state. -/
def State.allReleased (s : State) : Bool := s.profile.members.all fun k => (s.kelly.st k).isReleased

/-- The count m of interfaces from interface 0 inward that are ENGAGED without a break (R20). -/
def State.engagedRun (s : State) : Nat := (s.profile.members.takeWhile fun k => (s.kelly.st k).isEngaged).length

/-- Interface 0 is ENGAGED. -/
def State.firstEngaged (s : State) : Bool := (s.kelly.st 0).isEngaged

/-! ### Depths (R45, R46) -/

/-- Drive depth: present while the profile is COMMITTED and a valid sled sample has been taken. -/
def State.driveDepth (s : State) : Option Int :=
  if s.profile.committed then s.kelly.sled.map fun x => fig s.profile.machine.zTop + x else none

/-- Σp over interfaces 0 to n−1. -/
def State.extension (s : State) : Int := (s.profile.members.map s.kelly.pos).sum

/-- Tool depth D, present while the model is known. -/
def State.toolDepth (s : State) : Option Int :=
  if s.kelly.known then s.driveDepth.map fun d => d + s.profile.nestedReach + s.extension else none

/-- The bottom of S(k+1), present while the model is known. -/
def State.sectionBottom (s : State) (k : Fin 5) : Option Int :=
  if s.kelly.known && k.val < s.profile.count then
    s.driveDepth.map fun d =>
      d + fig s.profile.sections[k].bottom + (((List.finRange 5).filter fun i => i.val ≤ k.val).map s.kelly.pos).sum
  else none

/-- Unplaced length u = (r + J) − D, present while the model is known. -/
def State.unplaced (s : State) : Option Int :=
  match s.kelly.ropeDepth, s.toolDepth with
  | some r, some d => some (r + s.profile.topToTip - d)
  | _, _ => none

/-! ### The order in flight -/

/-- The order part of the entry in flight. -/
def State.orderOf (s : State) (t : Stroke) : Order := s.ring[t.index].order

/-- A LOCKED BORE. -/
def Order.isLocked (o : Order) : Bool := o.kind = .bore && o.boreMode = some .locked

/-- A HANGING BORE. -/
def Order.isHanging (o : Order) : Bool := o.kind = .bore && o.boreMode = some .hanging

/-- The stability state of the record, NORMAL while there is no record (R113, R144). -/
def Envelope.stability (e : Envelope) : Stability :=
  match e.record with
  | some r => r.state
  | none => .normal

end Sys2Proof.Machine
end

