-- ==== Sys2Proof/Machine/Flags.lean ====
section
/-! DEFINITION. Flag and mask arithmetic: the twelve notice flags and when setting them makes a notice due (R182, R183), the
sixteen inhibit directions and their union (R146, R147), and the notify sets of the reaction table (R150). -/
namespace Sys2Proof.Machine

/-! ### Notice flags (R182) -/

def flagFault : FlagSet := 1
def flagReactionEnd : FlagSet := 2
def flagStrokeDone : FlagSet := 4
def flagSeqState : FlagSet := 8
def flagMark : FlagSet := 16
def flagEnvelopeStale : FlagSet := 32
def flagEnvelopeFresh : FlagSet := 64
def flagDatumDebt : FlagSet := 128
def flagModeChange : FlagSet := 256
def flagUnitReset : FlagSet := 512
def flagLinkState : FlagSet := 1024
def flagLockout : FlagSet := 2048

/-- A notice waits in the transmit queue. -/
def LinkCtl.noticeWaiting (c : LinkCtl) : Bool := c.queue.any fun f => f = .notice

/-- A notice joins the queue of an UP link unless one is already waiting (R183). -/
def LinkCtl.noticeDue (c : LinkCtl) : LinkCtl :=
  if c.up && !c.noticeWaiting then { c with queue := c.queue ++ [.notice] } else c

/-- Set flags: a notice becomes due when a flag of the enable set goes from clear to set (R182, R183). -/
def LinkCtl.setFlags (c : LinkCtl) (v : FlagSet) : LinkCtl :=
  let c' := { c with flags := c.flags ||| v }
  if (v &&& ~~~c.flags &&& c.enables) = 0 then c' else c'.noticeDue

/-- A frame joins the transmit queue of an UP link (R183). -/
def LinkCtl.join (c : LinkCtl) (f : TxFrame) : LinkCtl := if c.up then { c with queue := c.queue ++ [f] } else c

/-- Set flags on one link. -/
def State.setFlags (l : Link) (v : FlagSet) (s : State) : State :=
  { s with links := s.links.modify l fun c => c.setFlags v }

/-- Set flags on all three links. -/
def State.setFlagsAll (v : FlagSet) (s : State) : State := { s with links := s.links.map fun c => c.setFlags v }

/-- The value of a link in a notify set: console 1, stability 2, recorder 4 (R150). -/
def linkBit : Link → NotifySet
  | .console => 1
  | .stability => 2
  | .recorder => 4

/-- The notify set of all three links. -/
def notifyAll : NotifySet := 7

/-- Set flags on the links of a notify set. -/
def State.setFlagsOn (n : NotifySet) (v : FlagSet) (s : State) : State :=
  let on (l : Link) (s : State) : State := if n &&& linkBit l = 0 then s else s.setFlags l v
  on .recorder (on .stability (on .console s))

/-! ### Inhibit directions (R146) -/

/-- The sixteen directions, in the order of R146. -/
inductive Direction where
  | crowdDown
  | crowdUp
  | rotateCw
  | rotateCcw
  | hoistUp
  | hoistDown
  | engage
  | release
  | spin
  | boreLocked
  | boreHanging
  | sledMove
  | gearShift
  | descend
  | survey
  | park
  deriving DecidableEq, Repr

/-- The value of a direction in a mask, 2^(d−1) (R146). -/
def Direction.bit : Direction → Mask
  | .crowdDown => 1
  | .crowdUp => 2
  | .rotateCw => 4
  | .rotateCcw => 8
  | .hoistUp => 16
  | .hoistDown => 32
  | .engage => 64
  | .release => 128
  | .spin => 256
  | .boreLocked => 512
  | .boreHanging => 1024
  | .sledMove => 2048
  | .gearShift => 4096
  | .descend => 8192
  | .survey => 16384
  | .park => 32768

/-- A direction is in a mask. -/
def holds (m : Mask) (d : Direction) : Bool := m &&& d.bit != 0

/-- The union of the three masks (R147). -/
def State.union (s : State) : Mask := s.masks.console ||| s.masks.stability ||| s.masks.recorder

/-- A kind's own direction (R69). -/
def Order.ownDirection (o : Order) : Option Direction :=
  match o.kind with
  | .descend => some .descend
  | .sled => some .sledMove
  | .engage => some .engage
  | .release => some .release
  | .bore => if o.boreMode = some .hanging then some .boreHanging else some .boreLocked
  | .spin => some .spin
  | .survey => some .survey
  | .park => some .park
  | _ => none

/-- The four ways a request changes a set: WRITE, SET, CLEAR, TOGGLE (R146). -/
def applyWrite {w : Nat} (_old v : BitVec w) : BitVec w := v
def applySet {w : Nat} (old v : BitVec w) : BitVec w := old ||| v
def applyClear {w : Nat} (old v : BitVec w) : BitVec w := old &&& ~~~v
def applyToggle {w : Nat} (old v : BitVec w) : BitVec w := old ^^^ v

end Sys2Proof.Machine
end

