-- ==== Sys2Proof/Machine/Ops.lean ====
section
/-! DEFINITION. The hand-offs between blocks and the answers of the links: raising a fault (R149), starting a recomputation
(R105), handing on a change of the tool depth (R51), changing the sequencer state (R67), answering a request (R177). -/
namespace Sys2Proof.Machine

/-! ### Hand-offs -/

/-- A raise with the depth given (R149). -/
def State.raiseAt (v : FaultVector) (depth : Option Int) (s : State) : State :=
  { s with mail := { s.mail with raises := s.mail.raises ++ [⟨v, depth, false⟩] } }

/-- A raise with the tool depth as it stands (R149). -/
def State.raise (v : FaultVector) (s : State) : State := s.raiseAt v s.toolDepth

/-- A raise declared by the decision of an interrupted rotation (R35, R156). -/
def State.raiseDecision (v : FaultVector) (s : State) : State :=
  { s with mail := { s.mail with raises := s.mail.raises ++ [⟨v, s.toolDepth, true⟩] } }

/-- A recomputation trigger reaches the limit computer (R105). -/
def State.trigger (t : Trigger) (s : State) : State :=
  { s with mail := { s.mail with triggers := s.mail.triggers ++ [t] } }

/-- The band of a depth: the 100 mm range from a multiple of 100 mm up to the next (R105). -/
def band (d : Int) : Int := d / 100

/-- Restart the no-advance window at a depth (R136). -/
def State.restartWindow (d : Option Int) (s : State) : State := { s with axes := { s.axes with window := some ⟨d, 0⟩ } }

/-- A change of D that brings D − D_w to 20 mm or more restarts the no-advance window (R136). -/
def State.watchProgress (s : State) : State :=
  match s.axes.window, s.toolDepth with
  | some ⟨some w, _⟩, some d => if 20 ≤ d - w then s.restartWindow (some d) else s
  | _, _ => s

/-- Hand on a change of D to the sequencer, the mark comparator and, when it crosses a band boundary, the limit computer (R51,
R105). A change from or to an absent D is none (R58). -/
def State.handOnDepth (old : Option Int) (s : State) : State :=
  match old, s.toolDepth with
  | some a, some b =>
    if a = b then s
    else
      let s : State := { s with mail := { s.mail with depthSeq := s.mail.depthSeq ++ [⟨a, b⟩], depthMark := s.mail.depthMark ++ [⟨a, b⟩] } }
      (if band a = band b then s else s.trigger .band).watchProgress
  | _, _ => s

/-- A change of the mask union is handed to the channels and the sequencer, each taking it as its own event (R147). -/
def State.handOnUnion (old : Mask) (s : State) : State :=
  if s.union = old then s
  else { s with mail := { s.mail with unionAxes := s.mail.unionAxes ++ [s.union], unionSeq := s.mail.unionSeq ++ [s.union] } }

/-- A change of TOB is handed to the sequencer (R51, R85). -/
def State.handOnTob (old : Bool) (s : State) : State :=
  if s.kelly.tob = old then s else { s with mail := { s.mail with tobSeq := s.mail.tobSeq ++ [s.kelly.tob] } }

/-- Change the sequencer state; each change sets SEQ_STATE flags on all three links (R67). -/
def State.setSeqState (q : SeqState) (s : State) : State :=
  if s.seq.state = q then s else ({ s with seq := { s.seq with state := q } } : State).setFlagsAll flagSeqState

/-- Change the stroke in flight, if there is one. -/
def State.onStroke (f : Stroke → Stroke) (s : State) : State :=
  { s with seq := { s.seq with stroke := s.seq.stroke.map f } }

/-! ### Answers (R176, R177, R183) -/

/-- The response to a request joins the transmit queue. -/
def State.answer (l : Link) (q : Request) (r : Result) (v : Int) (s : State) : State :=
  { s with links := s.links.modify l fun c => c.join (.response ⟨q.tag, r, q.object, q.sub, v, false⟩) }

/-- The response after which the unit reset is taken (R166). -/
def State.answerReset (l : Link) (q : Request) (s : State) : State :=
  { s with links := s.links.modify l fun c => c.join (.response ⟨q.tag, .ok, q.object, q.sub, 0, true⟩) }

/-- A refused request: its result and value 0 (R177). -/
def State.refuse (l : Link) (q : Request) (r : Result) (s : State) : State := s.answer l q r 0

/-! ### Small updates of blocks -/

def State.onKelly (f : Kelly → Kelly) (s : State) : State := { s with kelly := f s.kelly }
def State.onAxes (f : Axes → Axes) (s : State) : State := { s with axes := f s.axes }
def State.onLimits (f : Limits → Limits) (s : State) : State := { s with limits := f s.limits }
def State.onFaults (f : Faults → Faults) (s : State) : State := { s with faults := f s.faults }

/-- The rank of an end state (R67). -/
def EndState.rank : EndState → Nat
  | .running => 0
  | .held => 1
  | .stopped => 2
  | .faulted => 3

/-- The end state rises and never falls (R67). -/
def Stroke.raiseEnd (e : EndState) (t : Stroke) : Stroke := if t.endState.rank < e.rank then { t with endState := e } else t

/-- The first event to decide an outcome fixes it, with its reason if it carries one (R71). -/
def Stroke.decideOutcome (o : Outcome) (r : Option Reason) (t : Stroke) : Stroke :=
  if t.outcome.isNone then { t with outcome := some o, reason := t.reason.or r } else t

end Sys2Proof.Machine
end

