-- ==== Sys2Proof/Machine/Channels.lean ====
section
/-! DEFINITION. The axis channels: phase requests (R122), bounds (R124), caps (R126), ramps (R125), stops (R128 to R130), brakes
(R131), inhibits (R132). `settle` re-applies what holds at every moment: bounds clamp at once, the cap follows the limits, the
brake timer runs while its conditions hold, the valve demand follows the setpoint. -/
namespace Sys2Proof.Machine

/-- The sled-move force, 15.0 kN (R90, R124). -/
def sledMoveForce : Int := 150

/-- The least hoist tension, 5.0 kN (R124). -/
def leastTension : Int := 50

/-- Creep speed, 0.5 rpm (R122). -/
def creepSpeed : Int := 5

/-- The POSITION channel maximum, 1,000 mm/s (R123). -/
def positionMax : Int := 1000

/-! ### Bounds, caps, rates (R123 to R126) -/

/-- A speed ceiling in fine units, halved under RESTRICTED (R124, R144). -/
def State.ceiling (full : Int) (s : State) : Int :=
  if s.env.stability = .restricted then full * fine / 2 else full * fine

/-- The maximum rotary speed of the held gear; 0 while the gear is unknown. -/
def State.rotaryMax (s : State) : Int :=
  match s.axes.gear with
  | some g => s.profile.rotaryMax g
  | none => 0

/-- The cap of a channel in its present mode (R121, R124); a BRAKED rotary holds none (DESIGN CHOICE, log entry 73). -/
def State.capOf (x : Axis) (s : State) : Option Int :=
  match x, (s.axes.get x).mode with
  | .rotary, .speed => some s.axes.limits.torque
  | .rotary, .creep => some s.axes.limits.rotationCap
  | .crowd, .position => some sledMoveForce
  | _, _ => none

/-- A direction is held in the union as the channels took it (R132). -/
def State.inhibited (d : Direction) (s : State) : Bool := holds s.axes.union d

/-- The crowd force is capped at the sled-move force while interface 0 is not engaged (R124). -/
def State.crowdCeiling (limit : Int) (s : State) : Int := if s.firstEngaged then limit else min limit sledMoveForce

/-- The setpoint bounds of a channel in its present mode, lower and upper, in fine units (R124). -/
def State.bounds (x : Axis) (s : State) : Int × Int :=
  match x, (s.axes.get x).mode with
  | .hoist, .speed =>
    let c := s.ceiling (fig s.profile.machine.winchMax)
    (if s.inhibited .hoistUp then 0 else -c, if s.inhibited .hoistDown then 0 else c)
  | .hoist, .tension => (leastTension * fine, s.axes.limits.hoistLine * fine)
  | .crowd, .force =>
    (if s.inhibited .crowdUp then 0 else -(s.crowdCeiling s.axes.limits.pull * fine),
     if s.inhibited .crowdDown then 0 else s.crowdCeiling s.axes.limits.push * fine)
  | .crowd, .position =>
    let c := s.ceiling positionMax
    (if s.inhibited .crowdUp then 0 else -c, if s.inhibited .crowdDown then 0 else c)
  | .rotary, .speed | .rotary, .creep =>
    if s.capOf .rotary = some 0 || s.axes.gear.isNone then (0, 0)
    else
      let c := s.ceiling s.rotaryMax
      (if s.inhibited .rotateCcw then 0 else -c, if s.inhibited .rotateCw then 0 else c)
  | _, _ => (0, 0)

/-- What a channel's ramp moves toward: the request, as far as the bounds allow (R125). -/
def State.goal (x : Axis) (s : State) : Int := clampTo (s.bounds x).1 (s.bounds x).2 (s.axes.get x).request

/-- The ramp rate, in fine units a millisecond (R125). -/
def State.rampRate (x : Axis) (s : State) : Int :=
  match x, (s.axes.get x).mode with
  | .hoist, .speed => fig s.profile.machine.winchMax * fine / 1000
  | .hoist, .tension => fig s.profile.machine.wMax * fine / 1000
  | .crowd, .force => 500 * fine / 1000
  | .crowd, .position => 500 * fine / 1000
  | .rotary, .speed | .rotary, .creep => s.rotaryMax * fine / 2000
  | _, _ => 0

/-- The channel maximum of the present mode (R123). -/
def State.channelMax (x : Axis) (s : State) : Int :=
  match x, (s.axes.get x).mode with
  | .hoist, .speed => fig s.profile.machine.winchMax
  | .hoist, .tension => fig s.profile.machine.wMax
  | .crowd, .force => if 0 ≤ s.axes.crowd.setpoint then fig s.profile.machine.cMax else fig s.profile.machine.pMax
  | .crowd, .position => positionMax
  | .rotary, .speed | .rotary, .creep => s.rotaryMax
  | _, _ => 0

/-- The valve demand: the setpoint over the channel maximum, times 1000, rounded toward zero (R123), reduced by cap over load
while the load is at or above the cap (R126). -/
def State.demandOf (x : Axis) (s : State) : Int :=
  let c := s.axes.get x
  let full := s.channelMax x
  if full ≤ 0 then 0
  else
    let base := Int.tdiv (c.setpoint * 1000) (full * fine)
    match c.cap, c.overload with
    | some cap, some load => Int.tdiv (base * cap) load
    | _, _ => base

/-! ### What holds at every moment -/

/-- The motion input of an axis (R127). -/
def motionInput : Axis → SensorInput
  | .hoist => .ropePayout
  | .crowd => .sled
  | .rotary => .rotarySpeed

/-- The hoist enters TENSION at a request, starting at the latest tension within its bounds (R122). -/
def State.enterTension (request : Int) (s : State) : State :=
  let start := clampTo leastTension s.axes.limits.hoistLine (s.kelly.tension.getD (Config.tensionBeforeSample s.free))
  s.onAxes fun a => { a with hoist := { a.hoist with
    mode := .tension, request := max leastTension request * fine, setpoint := start * fine, brakeApplied := false } }

/-- The hoist leaves TENSION for SPEED with request and setpoint zero, holding the drum. -/
def Channel.leaveTension (c : Channel) : Channel :=
  if c.mode = .tension then { c with mode := .speed, request := 0, setpoint := 0 } else c

/-- HOIST_UP or HOIST_DOWN is set (R132). -/
def State.hoistInhibited (s : State) : Bool := s.inhibited .hoistUp || s.inhibited .hoistDown

/-- TENSION under the hoist inhibits and the hoist line limit: the kept request returns when both directions are clear (R132), and
a hoist line limit below 5.0 kN ends TENSION (R124), a TENSION just asked for too (DESIGN CHOICE, log entry 52). -/
def State.settleTension (s : State) : State :=
  let s :=
    match s.axes.keptTension with
    | some r => if s.hoistInhibited then s else (s.enterTension r).onAxes fun a => { a with keptTension := none }
    | none => s
  if s.axes.hoist.mode = .tension then
    if s.axes.limits.hoistLine < leastTension then s.onAxes fun a => { a with hoist := a.hoist.leaveTension }
    else if s.hoistInhibited then
      s.onAxes fun a => { a with keptTension := some (a.hoist.request / fine), hoist := a.hoist.leaveTension }
    else s
  else s

/-- The conditions of the brake timer: setpoint zero with request zero, and the axis AT_REST, or its motion input in fault
(R131). A kept TENSION request is a request. -/
def State.brakeRuns (x : Axis) (s : State) : Bool :=
  let c := s.axes.get x
  c.mode != .braked && c.setpoint = 0 && c.request = 0 && !(x = .hoist && s.axes.keptTension.isSome) &&
    (c.atRest || s.sup.inFault (motionInput x))

/-- One channel: cap, bounds, rest while its motion input is in fault (R127), brake timer, demand. Between two load samples a new cap above the
last load ends the reduction, and one below it begins none (DESIGN CHOICE, log entry 48). -/
def State.settleChannel (x : Axis) (s : State) : State :=
  let s := s.onAxes fun a => a.modify x fun c =>
    { c with cap := s.capOf x, overload := c.overload.filter fun load => (s.capOf x).any fun cap => decide (cap ≤ load) }
  let (lo, hi) := s.bounds x
  let s := s.onAxes fun a => a.modify x fun c =>
    let p := clampTo lo hi c.setpoint
    { c with setpoint := p, reached := c.reached || (p != c.setpoint && (p = 0 || p = clampTo lo hi c.request)) }
  let s := s.onAxes fun a => a.modify x fun c =>
    if s.sup.inFault (motionInput x) then { c with atRest := c.mode = .braked } else c
  let runs := s.brakeRuns x
  s.onAxes fun a => a.modify x fun c =>
    { c with brake := if runs then some (c.brake.getD 500) else none, demand := s.demandOf x }

/-- A rotary setpoint in SPEED that stands at its goal under a changed ceiling or a new request has reached it (R94, R125). -/
def State.arrive (s : State) : State :=
  s.onAxes fun a => { a with rotary := { a.rotary with
    reached := a.rotary.reached || (a.rotary.mode = .speed && a.rotary.setpoint != 0 && a.rotary.setpoint = s.goal .rotary) } }

/-- The same at a request given to one channel: the rotary alone reports it. -/
def State.arriveOn (x : Axis) (s : State) : State := if x = .rotary then s.arrive else s

/-- What holds of the channels at every moment. -/
def State.settle (s : State) : State :=
  ((s.settleTension.settleChannel .hoist).settleChannel .crowd).settleChannel .rotary

/-! ### Phase requests (R122) -/

/-- A phase request. Speeds and forces are in steps but for the fine speed. -/
inductive PhaseReq where
  | brake
  | speed (fineSpeed : Int)
  | tension (force : Int)
  | force (f : Int)
  | position (target speed : Int)
  | creep (clockwise : Bool)
  deriving DecidableEq, Repr

/-- The request becomes zero; a hoist in TENSION changes to SPEED (R122, R128). -/
def Axes.zeroRequest (x : Axis) (a : Axes) : Axes :=
  let a := a.modify x fun c => { c.leaveTension with request := 0, standing := false }
  match x with
  | .hoist => { a with keptTension := none }
  | .crowd => { a with sledGoal := none }
  | .rotary => a

/-- A working mode is entered or kept: the rotary carries its setpoint between SPEED and CREEP, the same mode keeps it, every other
new mode starts at zero (R122). -/
def Channel.enter (m : ChannelMode) (request : Int) (c : Channel) : Channel :=
  let carry := c.mode = m || (c.mode = .speed && m = .creep) || (c.mode = .creep && m = .speed)
  { c with
    mode := m
    request := request
    setpoint := if carry then c.setpoint else 0
    overload := if carry then c.overload else none
    brakeApplied := false
    standing := true }

/-- A channel takes a phase request, acted on only while the governor is FREE (R122). A rotary whose carried setpoint stands at the speed asked
for reports it (R94, R125). A crowd that enters POSITION has request zero until its
first valid sled sample (DESIGN CHOICE, log entry 51). -/
def State.phaseRequest (x : Axis) (q : PhaseReq) (s : State) : State :=
  if s.axes.governor ≠ .free then s
  else
    match q with
    | .brake => (s.onAxes fun a => a.zeroRequest x).settle
    | .speed v =>
      (s.onAxes fun a => { a.modify x (Channel.enter .speed v) with
        keptTension := if x = .hoist then none else a.keptTension }).settle.arriveOn x
    | .tension f =>
      let s := if s.axes.hoist.mode = .tension then
          s.onAxes fun a => { a with hoist := { a.hoist with request := max leastTension f * fine } }
        else s.enterTension f
      (s.onAxes fun a => { a with hoist := { a.hoist with standing := true }, keptTension := none }).settle
    | .force f =>
      (s.onAxes fun a => { a with crowd := a.crowd.enter .force (f * fine), sledGoal := none }).settle
    | .position target speed =>
      (s.onAxes fun a => { a with crowd := a.crowd.enter .position 0, sledGoal := some ⟨target, speed⟩ }).settle
    | .creep cw =>
      (s.onAxes fun a => { a with rotary := a.rotary.enter .creep (if cw then creepSpeed * fine else -(creepSpeed * fine)) }).settle

/-- A crowd in POSITION forms its speed request at a valid sled sample: toward the target, the smaller of the order's speed and
twice the remaining distance, zero within 5 mm (R122). -/
def positionRequest (g : SledGoal) (sled : Int) : Int :=
  let d := g.target - sled
  if magnitude d ≤ 5 then 0
  else if 0 < d then min g.speed (2 * d) * fine else -(min g.speed (2 * -d) * fine)

def State.formPosition (sled : Int) (s : State) : State :=
  match s.axes.sledGoal with
  | some g =>
    if s.axes.crowd.mode = .position then
      s.onAxes fun a => { a with crowd := { a.crowd with request := positionRequest g sled } }
    else s
  | none => s

/-! ### Stops (R128 to R130) -/

/-- A normal stop of one channel, nothing under FAST or CUT (R128). -/
def State.normalStopOn (x : Axis) (s : State) : State :=
  if s.axes.governor = .fast || s.axes.governor = .cut then s
  else (s.onAxes fun a => { a.zeroRequest x with relief := if x = .rotary then none else a.relief }).settle

/-- A normal stop of all three channels. -/
def State.normalStopAll (s : State) : State := ((s.normalStopOn .hoist).normalStopOn .crowd).normalStopOn .rotary

/-- The normal stop a completed stroke gives to each channel left with a phase request standing, unless a reaction governs it
(R70). -/
def State.stopStanding (s : State) : State :=
  let stop (x : Axis) (s : State) : State :=
    if s.axes.governor = .free && (s.axes.get x).standing && !(x = .crowd && s.ctl.latchRequest) then s.normalStopOn x else s
  stop .rotary (stop .crowd (stop .hoist s))

/-- A fast stop on one channel: request zero, TENSION to SPEED at zero, the fall that reaches zero 0.3 s later (R129). -/
def Channel.fastStop (c : Channel) : Channel :=
  let c := { c.leaveTension with request := 0, standing := false }
  { c with fastRate := (magnitude c.setpoint + 299) / 300 }

/-- A fast stop of all three channels (R129). -/
def State.fastStopAll (s : State) : State :=
  if s.axes.governor = .cut then s
  else
    (s.onAxes fun a => { a with
      hoist := a.hoist.fastStop, crowd := a.crowd.fastStop, rotary := a.rotary.fastStop,
      governor := .fast, sledGoal := none, keptTension := none, relief := none }).settle

/-- A cut on one channel (R130). -/
def Channel.cutOff (c : Channel) : Channel :=
  { c with mode := .braked, request := 0, setpoint := 0, demand := 0, cap := none, overload := none, brake := none,
           brakeApplied := true, standing := false, fastRate := 0 }

/-- Every channel BRAKED at zero at once. -/
def Axes.brakeAll (a : Axes) : Axes :=
  { a with
    hoist := a.hoist.cutOff, crowd := a.crowd.cutOff, rotary := a.rotary.cutOff,
    sledGoal := none, keptTension := none, relief := none }

/-- A cut of all three channels (R130). -/
def State.cutAll (s : State) : State := (s.onAxes fun a => { a.brakeAll with governor := .cut }).settle

/-- While the unit stays PARKED with LATCH, the mode controller gives its crowd request again when the governors return to FREE
(R172). Before the unit is PARKED it does not (DESIGN CHOICE, log entry 61). -/
def State.renewLatch (s : State) : State :=
  if s.ctl.latchRequest && s.ctl.mode = .parked then s.phaseRequest .crowd (.force s.profile.holdIn) else s

/-- The report that a reaction has ended: the governors return to FREE (R128 to R130). -/
def State.freeGovernors (s : State) : State :=
  (s.onAxes fun a => { a with governor := .free }).renewLatch.settle

/-- The channels take the oldest order of the fault controller (DESIGN CHOICE, log entry 31). -/
def State.takeOrder (o : ChannelOrder) (s : State) : State :=
  match o with
  | .normalStop =>
    let s := s.normalStopAll
    if s.axes.governor = .free then s.onAxes fun a => { a with governor := .normal } else s
  | .fastStop => s.fastStopAll
  | .cut => s.cutAll
  | .ended => s.freeGovernors

/-! ### Rest and loads -/

/-- The rate test of the hoist and the crowd: below 5 mm/s between two valid samples (R127). Two samples in one millisecond are
taken as one millisecond apart (DESIGN CHOICE, log entry 11). -/
def slow (delta : Int) (ms : Nat) : Bool := magnitude delta * 1000 < 5 * (max 1 ms : Nat)

/-- All at rest (R127). -/
def State.allAtRest (s : State) : Bool := s.axes.hoist.atRest && s.axes.crowd.atRest && s.axes.rotary.atRest

/-- Every setpoint is zero (R156). -/
def State.allZero (s : State) : Bool := s.axes.hoist.setpoint = 0 && s.axes.crowd.setpoint = 0 && s.axes.rotary.setpoint = 0

/-- The load against the motion of a channel at a sample (R126): `load` is positive against positive motion. -/
def Channel.testLoad (load : Option Int) (c : Channel) : Channel :=
  match c.cap, load with
  | some cap, some v =>
    let against := if 0 < c.setpoint then v else if c.setpoint < 0 then -v else 0
    { c with overload := if 0 < against && cap ≤ against then some against else none }
  | _, _ => { c with overload := none }

end Sys2Proof.Machine
end

