-- ==== Sys2Proof/Machine/KellyOps.lean ====
section
/-! DEFINITION. Shared operations of the kelly model: the capture window (R18), the order rule (R47), tool load and
tool-on-bottom (R20, R21), withdrawal of the model (R38), and what every change of engagement hands on (R17). -/
namespace Sys2Proof.Machine

/-! ### Interfaces -/

/-- Rewrite every engagement record by its index. -/
def Kelly.mapIf (f : Fin 5 → IfModel → IfModel) (m : Kelly) : Kelly :=
  { m with interfaces := Vector.ofFn fun k => f k m.interfaces[k] }

/-- Set the position of interface k. -/
def Kelly.setPos (k : Fin 5) (x : Int) (m : Kelly) : Kelly :=
  { m with interfaces := m.interfaces.set k ⟨m.interfaces[k].state, some x⟩ }

/-- The station whose capture window, 40 mm either way, holds a position (R18). -/
def Profile.capture (p : Profile) (k : Fin 5) (x : Int) : Option (Fin 8) :=
  ((p.stations k).find? fun e => decide (magnitude (x - e.2) ≤ 40)).map Prod.fst

/-- The released state of interface k at a position (R18). -/
def Profile.place (p : Profile) (k : Fin 5) (x : Int) : IfState :=
  match p.capture k x with
  | some j => .aligned j
  | none => .released

/-- Place every interface that is in a released state by its position (R18). -/
def Kelly.placeReleased (p : Profile) (m : Kelly) : Kelly :=
  m.mapIf fun k r => if r.state.isReleased then { r with state := p.place k (r.position.getD 0) } else r

/-- The interfaces a test holds of return to a released state at their held positions (R19). -/
def Kelly.release (p : Profile) (who : IfState → Bool) (m : Kelly) : Kelly :=
  m.mapIf fun k r => if who r.state then { r with state := p.place k (r.position.getD 0) } else r

/-- SEATING interfaces become ENGAGED at their stations (R25). -/
def IfState.toEngaged : IfState → IfState
  | .seating j => .engaged j
  | .unseating j => .engaged j
  | x => x

/-- ENGAGED interfaces become UNSEATING at their stations (R29). -/
def IfState.toUnseating : IfState → IfState
  | .engaged j => .unseating j
  | x => x

/-- Change the state of every interface, positions held. -/
def Kelly.mapState (f : IfState → IfState) (m : Kelly) : Kelly := m.mapIf fun _ r => { r with state := f r.state }

/-! ### The order rule (R47) -/

/-- Extension by `e` over the interfaces of a list, in its order, each taking what remains up to its travel left; the remainder. -/
def extendOver (p : Profile) : List (Fin 5) → Int → Kelly → Kelly × Int
  | [], e, m => (m, e)
  | k :: ks, e, m =>
    if (m.st k).isReleased then
      let t := min e (p.travel k - m.pos k)
      extendOver p ks (e - t) (m.setPos k (m.pos k + t))
    else extendOver p ks e m

/-- Retraction by `e` over the interfaces of a list, in its order, each giving up what remains down to 0; the remainder. -/
def retractOver : List (Fin 5) → Int → Kelly → Kelly × Int
  | [], e, m => (m, e)
  | k :: ks, e, m =>
    if (m.st k).isReleased then
      let t := min e (m.pos k)
      retractOver ks (e - t) (m.setPos k (m.pos k - t))
    else retractOver ks e m

/-- Share a signed amount over the interfaces of a list given from 0 inward: extension in that order, retraction from the other
end; the released interfaces are then placed by R18. -/
def Kelly.share (p : Profile) (ks : List (Fin 5)) (e : Int) (m : Kelly) : Kelly :=
  (if 0 ≤ e then (extendOver p ks e m).1 else (retractOver ks.reverse (-e) m).1).placeReleased p

/-! ### Tool load and tool-on-bottom (R20, R21) -/

/-- The running sum cumW_m of the rounded buoyant weights (R108). -/
def LimitSet.cumWeight (w : LimitSet) (m : Nat) : Int := ((w.weights.toList.take m).map fig).sum

/-- The tool load, absent as R20 says. -/
def State.formToolLoad (s : State) : Option Int :=
  if !s.kelly.known then none
  else
    match s.limits.set.wTotal, s.kelly.tension with
    | some w, some t =>
      if s.chainEngaged then s.kelly.crowdForce.map fun f => max 0 (f + w - t)
      else some (max 0 (w - s.limits.set.cumWeight s.engagedRun - t))
    | _, _ => none

/-- TOB: the tool load is at least one tenth of W_total, compared exactly (R21). -/
def State.formTob (load : Option Int) (s : State) : Bool :=
  match load, s.limits.set.wTotal with
  | some l, some w => w ≤ 10 * l
  | _, _ => false

/-- Re-form the tool load and TOB, handing on a change of TOB. -/
def State.evalTob (s : State) : State :=
  let load := s.formToolLoad
  let s' : State := { s with kelly := { s.kelly with toolLoad := load, tob := s.formTob load } }
  s'.handOnTob s.kelly.tob

/-! ### Changes of engagement (R17) -/

/-- What every change of an interface's state or station brings: a recomputation, the tool load and TOB, the discrepancy latch
cleared when the chain becomes fully engaged (R49), and the bounds that read interface 0 (R124). -/
def State.engagementChanged (s : State) : State :=
  let s := (s.trigger .engagement).evalTob
  (if s.chainEngaged then s.onKelly fun m => { m with latch := false } else s).settle

/-- Hand on a change of engagement against an earlier map. -/
def State.noteEngagement (old : Kelly) (s : State) : State :=
  if (List.finRange 5).all fun k => s.kelly.st k = old.st k then s else s.engagementChanged

/-- Start, restart or stop the seat settle time; its start and its stop each start a recomputation (R32, R105). -/
def State.startSeatSettle (s : State) : State := (s.onKelly fun m => { m with seatSettle := some 1000 }).trigger .settle

def State.stopSeatSettle (s : State) : State :=
  if s.kelly.seatSettle.isSome then (s.onKelly fun m => { m with seatSettle := none }).trigger .settle else s

/-- The model after its withdrawal: every interface UNKNOWN, positions, tool load and TOB gone, settle times stopped, spring-back
0 (R38), the rotation gone and the discrepancy latch clear (R49). Rope depth and samples stay. -/
def Kelly.withdrawn (m : Kelly) : Kelly :=
  { m with
    known := false
    interfaces := Vector.replicate 5 ⟨.unknown, none⟩
    toolLoad := none
    tob := false
    seatSettle := none
    releaseSettle := none
    springBack := 0
    rotation := none
    latch := false }

/-- The model becomes UNKNOWN, if it is known (R17, R38). -/
def State.withdrawModel (s : State) : State :=
  if s.kelly.known then
    let s' := (s.stopSeatSettle.onKelly Kelly.withdrawn).trigger .engagement
    (s'.handOnTob s.kelly.tob).settle
  else s

/-! ### The spring-back and rotation records -/

/-- The rotation ends: its record goes and the spring-back accumulator becomes 0 (R36). -/
def State.endRotation (s : State) : State := s.onKelly fun m => { m with rotation := none, springBack := 0 }

/-- The rotation turns or creeps back: its result is not decided. -/
def Rotation.undecided (r : Rotation) : Bool := r.stage != .resting

/-- The angle turned since a start angle, clockwise positive; 0 while no angle has been sampled (DESIGN CHOICE, log entry 76). -/
def turnedCw (origin angle : Option Int) : Int :=
  match origin, angle with
  | some o, some a => a - o
  | _, _ => 0

/-- The angle a rotation has turned in its own direction: θ clockwise, φ anticlockwise (R24, R29). -/
def Rotation.turned (r : Rotation) (angle : Option Int) : Int :=
  match r.sense with
  | .seating => turnedCw r.origin angle
  | .unseating => -turnedCw r.origin angle

end Sys2Proof.Machine
end

