-- ==== Sys2Proof/Machine/Modes.lean ====
section
/-! DEFINITION. Changes of the unit mode (R165), the safety lines (R161), and the declarations that withdraw the model:
CHAIN_LOST (R38), PARK_DISTURBED (R173), a failed re-seat check (R175). -/
namespace Sys2Proof.Machine

/-- The lines for the present unit mode and controller state (R161, R154; DEDUCED, log entry 15). -/
def State.setLines (s : State) : State :=
  s.onFaults fun f => { f with
    pilotCut := s.ctl.mode = .config || s.ctl.mode = .lockout || f.state = .cut || f.state = .lockout
    lockoutLine := f.state = .lockout }

/-- The crowd request held for a LATCH park is withdrawn; where the new mode is SURVEY_REQUIRED, by a normal stop of the crowd (R165). Into
OPERATING it stays at the channel, as no stroke's own: the first phase request of the next stroke replaces it (R175). -/
def State.withdrawLatch (new : UnitMode) (s : State) : State :=
  if s.ctl.latchRequest then
    let s' : State := { s with ctl := { s.ctl with latchRequest := false } }
    if new = .surveyRequired then s'.normalStopOn .crowd else s'.onAxes fun a => { a with crowd := { a.crowd with standing := false } }
  else s

/-- Every change out of PARKED (R165). -/
def State.leaveParked (new : UnitMode) (s : State) : State :=
  if s.ctl.mode = .parked then
    let s := s.withdrawLatch new
    { s with ctl := { s.ctl with park := none, reseat := .idle } }
  else s

/-- On leaving CONFIG the top-stop watch takes its count from the first valid payout sample. The latch stays: one
TOP_STOP in each ON period (R88, R137). -/
def State.leaveConfig (s : State) : State :=
  if s.ctl.mode = .config then s.onAxes fun a => { a with topCount := none } else s

/-- A change of the unit mode, handed to the blocks that act on it (R165). Into SURVEY_REQUIRED the model is withdrawn where it is
still known. -/
def State.changeMode (new : UnitMode) (s : State) : State :=
  if s.ctl.mode = new then s
  else
    let c : ModeChange := ⟨s.ctl.mode, new⟩
    let s := (s.leaveParked new).leaveConfig
    let s := if new = .surveyRequired then s.withdrawModel else s
    let s : State := { s with
      ctl := { s.ctl with mode := new }
      mail := { s.mail with
        modeSeq := s.mail.modeSeq ++ [c], modeEnv := s.mail.modeEnv ++ [c],
        modeSup := s.mail.modeSup ++ [c], modeLines := s.mail.modeLines ++ [c] } }
    s.setFlagsAll flagModeChange

/-- CHAIN_LOST: the raise with the depth as it stood, the model UNKNOWN, the unit out of OPERATING or PARKED (R38). -/
def State.chainLost (s : State) : State :=
  let s := (s.raise .chainLost).withdrawModel
  if s.ctl.mode = .operating || s.ctl.mode = .parked then s.changeMode .surveyRequired else s

/-- A CHAIN_LOST declared by the decision of an interrupted rotation (R35, R156). -/
def State.chainLostByDecision (s : State) : State :=
  let s := (s.raiseDecision .chainLost).withdrawModel
  if s.ctl.mode = .operating || s.ctl.mode = .parked then s.changeMode .surveyRequired else s

/-- A park disturbed: vector 19 with D as it stands, the model UNKNOWN, the unit in SURVEY_REQUIRED (R173). -/
def State.parkDisturbed (s : State) : State :=
  (s.raise .parkDisturbed).withdrawModel.changeMode .surveyRequired

/-- A failed re-seat check: its vector, the model UNKNOWN, the unit in SURVEY_REQUIRED (R175). -/
def State.reseatFailed (v : FaultVector) (s : State) : State :=
  (s.raise v).withdrawModel.changeMode .surveyRequired

/-- A parked axis has moved more than `limit` from its reference (R173); never from an absent one (DESIGN CHOICE, log entry 77). -/
def movedPast (ref now : Option Int) (limit : Int) : Bool :=
  match ref, now with
  | some a, some b => limit < magnitude (b - a)
  | _, _ => false

/-- The disturbance watch on the rope (R173) (DEDUCED, log entry 28). -/
def State.watchParkRope (s : State) : State :=
  match s.ctl.mode, s.ctl.park with
  | .parked, some p => if movedPast p.refs.rope s.kelly.ropeDepth 50 then s.parkDisturbed else s
  | _, _ => s

/-- The disturbance watch on the sled (R173). -/
def State.watchParkSled (s : State) : State :=
  match s.ctl.mode, s.ctl.park with
  | .parked, some p => if movedPast p.refs.sled s.kelly.sled 50 then s.parkDisturbed else s
  | _, _ => s

/-- The disturbance watch on the rotary angle, suspended while the re-seat state is CHECKING (R173). -/
def State.watchParkAngle (s : State) : State :=
  match s.ctl.mode, s.ctl.park, s.ctl.reseat with
  | .parked, some p, .idle => if movedPast p.refs.angle s.kelly.angle s.profile.tol then s.parkDisturbed else s
  | _, _, _ => s

end Sys2Proof.Machine
end

