-- ==== Sys2Proof/Machine/Limits.lean ====
section
/-! DEFINITION. The limit computer's arithmetic (06_drive_limits.md): exact, with the rounding each rule names. Forces in 0.1 kN,
torques in 0.1 kNm, fractions in 0.001. -/
namespace Sys2Proof.Machine

/-! ### Weights (R107, R108, R110) -/

/-- Submerged fraction of a part: (bottom − H_fluid) ÷ length, clamped to [0, 1], truncated to 0.001 (R107). -/
def fraction (bottom level length : Int) : Int := clampTo 0 1000 ((bottom - level) * 1000 / length)

/-- Buoyant weight 9.81 × (m − ρ × V × f ÷ 1000) N, rounded half up to 0.1 kN; a negative result is 0.0 (R108). -/
def buoyant (mass volume density f : Int) : Int :=
  max 0 (roundHalfUp (981 * (mass * 1000000 - density * volume * f)) 10000000000)

/-- Dry weight 9.81 × m, rounded half up to 0.1 kN (R110). -/
def dryWeight (mass : Int) : Int := roundHalfUp (981 * mass) 10000

/-- A value for each of S1 to Sn, absent above n. -/
def Profile.perSection (p : Profile) (f : Fin 5 → Int) : Vector (Option Int) 5 :=
  Vector.ofFn fun k => if k.val < p.count then some (f k) else none

/-- The dry weights of the committed kelly (R110). -/
def Profile.dryWeights (p : Profile) : DryWeights :=
  let w (k : Fin 5) : Int := dryWeight (fig p.sections[k].mass)
  let tool := dryWeight (fig p.tool.mass)
  ⟨p.perSection w, some tool, some ((p.members.map w).sum + tool)⟩

/-- Submerged fraction of S(k+1) (R107). -/
def State.sectionFraction (s : State) (k : Fin 5) : Int :=
  fraction (fig (s.sectionBottom k)) s.slurry.level (fig s.profile.sections[k].length)

/-- Buoyant weight of S(k+1) (R108). -/
def State.sectionWeight (s : State) (k : Fin 5) : Int :=
  buoyant (fig s.profile.sections[k].mass) (fig s.profile.sections[k].volume) s.slurry.density (s.sectionFraction k)

def State.toolFraction (s : State) : Int := fraction (fig s.toolDepth) s.slurry.level (fig s.profile.tool.height)

def State.toolWeight (s : State) : Int :=
  buoyant (fig s.profile.tool.mass) (fig s.profile.tool.volume) s.slurry.density s.toolFraction

/-- W_total: the sum of the rounded weights of S1 to Sn and the tool (R108). -/
def State.formTotal (s : State) : Int := (s.profile.members.map s.sectionWeight).sum + s.toolWeight

/-- cumW_k = W_1 + … + W_k (R108). -/
def State.cumWeight (s : State) (k : Nat) : Int := ((s.profile.members.take k).map s.sectionWeight).sum

/-! ### Terms (R111 to R113, R115) -/

/-- Structural push margin: the smallest A_k − cumW_k, not below 0.0 (R111). -/
def State.pushMargin (s : State) : Int :=
  max 0 (least (s.profile.members.map fun k => fig s.profile.interfaces[k].push - s.cumWeight k.val))

/-- Structural pull margin: the smallest U_k + cumW_k (R115). -/
def State.pullMargin (s : State) : Int :=
  least (s.profile.members.map fun k => fig s.profile.interfaces[k].pull + s.cumWeight k.val)

/-- Free length D − d_drive with a floor of 1,000 mm (R112). -/
def State.freeLength (s : State) : Int := max 1000 (fig s.toolDepth - fig s.driveDepth)

/-- Buckling term B ÷ L_free², rounded down to 0.1 kN (R112); the length in mm. -/
def bucklingTerm (column length : Int) : Int := column * 10000000 / (length * length)

/-- The envelope in use: the record while the envelope is FRESH (R113). -/
def Envelope.current (e : Envelope) : Option EnvRecord := if e.freshness = .fresh then e.record else none

/-- A percentage of a rating, rounded down to 0.1 (R113). -/
def percent (pct rating : Int) : Int := pct * rating / 100

def State.ePush (s : State) : Int :=
  match s.env.current with
  | some r => min r.push (fig s.profile.machine.cMax)
  | none => percent (fig s.profile.kelly.fallback) (fig s.profile.machine.cMax)

def State.ePull (s : State) : Int :=
  match s.env.current with
  | some r => min r.pull (fig s.profile.machine.pMax)
  | none => percent (fig s.profile.kelly.fallback) (fig s.profile.machine.pMax)

def State.eTorque (s : State) : Int :=
  match s.env.current with
  | some r => r.torque
  | none => percent (fig s.profile.kelly.fallback) (fig s.profile.machine.torqueLow)

/-! ### The push limit (R114) -/

/-- The stability state is STOP. -/
def State.stopped (s : State) : Bool := s.env.stability = .stop

/-- Step 1: the smallest of the four ceilings. -/
def State.pushCeiling (s : State) : Int :=
  min (min s.pushMargin (bucklingTerm (fig s.profile.kelly.column) s.freeLength)) (min s.ePush (fig s.profile.machine.cMax))

/-- Step 2: STOP. -/
def State.pushAfterStop (s : State) : Int := if s.stopped then 0 else s.pushCeiling

/-- Step 3: the datum debt halves, rounded down to 0.1 kN. -/
def State.pushAfterDebt (s : State) : Int := if 2 ≤ s.kelly.debt then s.pushAfterStop / 2 else s.pushAfterStop

/-- Step 4: the seat settle cap. -/
def State.pushAfterSettle (s : State) : Int :=
  if s.kelly.seatSettle.isSome then min s.pushAfterDebt s.profile.holdIn else s.pushAfterDebt

/-- Step 5: push passes only through a fully engaged chain. -/
def State.pushLimit (s : State) : Int := if s.chainEngaged then s.pushAfterSettle else 0

/-- The ceiling that gave the smallest value, the first named when two are equal (R114). -/
def State.bindingCeiling (s : State) : Binding :=
  let c := s.pushCeiling
  if s.pushMargin = c then .structural
  else if bucklingTerm (fig s.profile.kelly.column) s.freeLength = c then .buckling
  else if s.ePush = c then (if s.env.current.isSome then .envelope else .fallback)
  else .machine

/-- The binding term of the push limit (R114): the first of R114's list whose condition stands, also where the value was 0.0 before its step
(DESIGN CHOICE, log entry 78). -/
def State.bindingTerm (s : State) : Binding :=
  if !s.chainEngaged then .chain
  else if s.stopped then .stop
  else if s.pushAfterSettle < s.pushAfterDebt then .settle
  else if 2 ≤ s.kelly.debt then .debt
  else s.bindingCeiling

/-! ### Pull, torque, rotation cap, holdback (R115, R116, R118) -/

/-- The pull limit (R115). -/
def State.pullLimit (s : State) : Int :=
  if s.chainEngaged then min (min s.pullMargin s.ePull) (fig s.profile.machine.pMax) else 0

/-- The torque limit (R116). -/
def State.torqueLimit (s : State) : Int :=
  match s.axes.gear with
  | some g => if s.stopped then 0 else min (min s.eTorque (s.profile.driveTorque g)) s.profile.leastTorque
  | none => 0

/-- The rotation cap: twice the seat confirm torque, not above the torque limit (R116). -/
def State.rotationCap (s : State) : Int := min (2 * s.profile.confirmTorque) s.torqueLimit

/-- The holdback R_set = W_total − F_req, clamped to [5.0, hoist line limit], while a request is held and W_total is present
(R118). -/
def holdbackOf (request total : Option Int) (hoistLine : Int) : Option Int :=
  match request, total with
  | some f, some w => some (clampTo leastTension hoistLine (w - f))
  | _, _ => none

/-! ### The recomputation (R106) -/

/-- The limit set of a known model. -/
def State.knownSet (s : State) : LimitSet :=
  { push := s.pushLimit
    pull := s.pullLimit
    torque := s.torqueLimit
    hoistLine := fig s.profile.machine.wMax
    rotationCap := s.rotationCap
    holdback := holdbackOf s.limits.downforce (some s.formTotal) (fig s.profile.machine.wMax)
    wTotal := some s.formTotal
    pushMargin := some s.pushMargin
    pullMargin := some s.pullMargin
    freeLength := some s.freeLength
    buckling := some (bucklingTerm (fig s.profile.kelly.column) s.freeLength)
    ePush := some s.ePush
    ePull := some s.ePull
    eTorque := some s.eTorque
    binding := s.bindingTerm
    weights := s.profile.perSection s.sectionWeight
    toolWeight := some s.toolWeight
    fractions := s.profile.perSection s.sectionFraction
    toolFraction := some s.toolFraction }

/-- The limit set of an UNKNOWN model, with the torque limit and rotation cap of a SURVEY's UNSEAT phase (R104, R116). -/
def State.unknownSet (s : State) : LimitSet :=
  if s.limits.unseatPhase then
    { LimitSet.unknown with torque := s.torqueLimit, rotationCap := s.rotationCap, eTorque := some s.eTorque }
  else LimitSet.unknown

/-- The limit set the inputs give as they stand. -/
def State.formSet (s : State) : LimitSet := if s.kelly.known then s.knownSet else s.unknownSet

/-- The HOLD_IN_LOST test at the end of a recomputation (R119). -/
def State.testHoldIn (s : State) : State :=
  if s.chainEngaged && s.kelly.seatSettle.isNone then
    if s.limits.set.push < s.profile.holdIn then
      if s.limits.holdInLost then s else (s.raise .holdInLost).onLimits fun m => { m with holdInLost := true }
    else s.onLimits fun m => { m with holdInLost := false }
  else s.onLimits fun m => { m with holdInLost := false }

/-- A recomputation: the set is formed and handed on, and the HOLD_IN_LOST test is made (R106). -/
def State.recompute (s : State) : State :=
  let w := s.formSet
  let s := (s.onLimits fun m => { m with set := w }).testHoldIn
  { s with mail := { s.mail with
      limitAxes := s.mail.limitAxes ++ [w], limitSeq := s.mail.limitSeq ++ [w], limitModel := s.mail.limitModel + 1 } }

/-- The end of a SURVEY's UNSEAT phase reaches the limit computer (R168). -/
def State.endUnseat (s : State) : State :=
  if s.limits.unseatPhase then (s.onLimits fun m => { m with unseatPhase := false }).trigger .unseat else s

/-- The downforce request is withdrawn and the holdback becomes absent (R118). -/
def State.withdrawDownforce (s : State) : State :=
  if s.limits.downforce.isSome then
    s.onLimits fun m => { m with downforce := none, set := { m.set with holdback := none } }
  else s

/-- The downforce request is handed over and the holdback formed from the set as it stands (R118). -/
def State.handDownforce (f : Int) (s : State) : State :=
  s.onLimits fun m => { m with
    downforce := some f, set := { m.set with holdback := holdbackOf (some f) m.set.wTotal m.set.hoistLine } }

/-- The achieved downforce W_total − R_set is less than the request (R98, R118). -/
def downforceShort (request : Option Int) (w : LimitSet) : Bool :=
  match request, w.wTotal, w.holdback with
  | some f, some t, some r => decide (t - r < f)
  | _, _, _ => false

/-- A stored envelope record clamped to the machine ratings (R141). -/
def Profile.clampRecord (p : Profile) (r : EnvRecord) : EnvRecord :=
  if p.committed then
    { r with
      push := min r.push (fig p.machine.cMax)
      pull := min r.pull (fig p.machine.pMax)
      torque := min r.torque (max (fig p.machine.torqueLow) (fig p.machine.torqueHigh)) }
  else r

end Sys2Proof.Machine
end

