-- ==== Sys2Proof/Machine/Fields.lean ====
section
/-! DEFINITION. The object map (R179) with every field's readout and codes (R176), the rights (R180), the checks of a request
(R177), and which command of the table takes a request. Codes of named values are places in the manual's lists (DEDUCED, log entry 14). -/
namespace Sys2Proof.Machine

/-! ### Codes -/

/-- The place of a name in its list. -/
def codeIn {α : Type} [DecidableEq α] (names : List α) (x : α) : Int := (names.idxOf x : Nat)

/-- The name at a place of its list. -/
def nameAt {α : Type} (names : List α) (v : Int) : Option α := if v < 0 then none else names[v.toNat]?

/-- The code of a pair of names, the first 0 and the second 1 (R176). TOB, which has no list of names, is false 0 and true 1 (DESIGN CHOICE, log
entry 60). -/
def boolCode (b : Bool) : Int := if b then 1 else 0
def boolList : List Bool := [false, true]
def gearList : List Gear := [.low, .high]
def kindList : List Kind := [.none, .descend, .hoist, .sled, .engage, .release, .bore, .spin, .dwell, .survey, .park]
def boreModeList : List BoreMode := [.locked, .hanging]
def parkKindList : List ParkKind := [.stow, .latch]
def outcomeList : List Outcome :=
  [.done, .target, .bottom, .top, .sledEnd, .timeout, .mark, .refused, .aborted, .heldByFault, .faulted, .notRun, .reset]
def phaseList : List Phase :=
  [.run, .rampDown, .move, .settleWait, .seating, .creepBack, .crowdDown, .unseating, .gear, .rampUp, .advance, .releaseDwell,
   .turnCw, .turnCcw, .wait, .unseat, .raise, .nest, .sledUp, .brake, .holdIn]
def seqStateList : List SeqState := [.stopped, .running, .suspended, .held, .faulted]
def endStateList : List EndState := [.running, .held, .stopped, .faulted]
def modeList : List UnitMode := [.config, .surveyRequired, .operating, .parked, .lockout]
def classList : List ReactionClass := [.announce, .hold, .halt, .cut]
def stabilityList : List Stability := [.normal, .restricted, .stop]
def freshnessList : List Freshness := [.fresh, .stale, .lost]
def controllerList : List ControllerState := [.clear, .reacting, .compound, .cut, .lockout]
def governorList : List Governor := [.free, .normal, .fast, .cut]
def bindingList : List Binding :=
  [.unknown, .chain, .stop, .settle, .debt, .structural, .buckling, .envelope, .fallback, .machine]
def directionList : List MarkDirection := [.down, .up]
def actionList : List MarkAction := [.note, .endStroke, .hold]
def markStateList : List MarkState := [.unarmed, .armed, .reached]
def resultList : List Result := [.ok, .access, .range, .state, .owned, .noObject, .busy]
def ownerList : List Owner := [.console, .unit]

/-- The number of a vector (R149). -/
def vectorCode (v : FaultVector) : Int := codeIn vectorList v

/-- The code of a reason (R64). -/
def reasonCode : Reason → Int
  | .fault v => vectorCode v
  | .mode => 32
  | .inhibited => 33
  | .modelUnknown => 34
  | .chain => 35
  | .notOnBottom => 36
  | .planMismatch => 37
  | .notAligned => 38
  | .overweight => 39
  | .clearance => 40
  | .park => 41

/-- The code of an interface state, in the order of R17. -/
def ifStateCode : IfState → Int
  | .unknown => 0
  | .released => 1
  | .aligned _ => 2
  | .seating _ => 3
  | .engaged _ => 4
  | .unseating _ => 5

/-- The code of a channel mode: BRAKED, then the channel's working modes in the order of R122. -/
def channelModeCode : ChannelMode → Int
  | .braked => 0
  | .speed => 1
  | .force => 1
  | .tension => 2
  | .position => 2
  | .creep => 2

/-- The code of the held gear: LOW, HIGH or unknown (R133). -/
def heldGearCode : Option Gear → Int
  | some .low => 0
  | some .high => 1
  | none => 2

def shiftCode : Shift → Int
  | .idle => 0
  | .pending _ => 1
  | .shifting _ => 2

/-- A setpoint as it travels: a whole number of its step (DESIGN CHOICE, log entry 8). -/
def setpointReadout (p : Int) : Int :=
  if p % fine = 0 then p / fine else if Config.setpointRoundsUp p then p / fine + 1 else p / fine

/-- A duration as it travels, in 0.1 s, saturating at 6553.5 s (R64; DESIGN CHOICE, log entry 9). -/
def durationReadout (ms : Nat) : Int :=
  let tenths : Nat := if ms % 100 = 0 then ms / 100 else if Config.durationRoundsUp ms then ms / 100 + 1 else ms / 100
  (min 65535 tenths : Nat)

/-! ### Fields -/

/-- The fields of the order part (R63). -/
inductive OrderField where
  | kind
  | tag
  | gear
  | targetDepth
  | toTop
  | winchSpeed
  | sledTarget
  | sledSpeed
  | boreMode
  | advance
  | rotarySpeed
  | push
  | downforce
  | autoRelease
  | cycles
  | dwell
  | parkKind
  | planLength
  | pairIface (p : Fin 5)
  | pairStation (p : Fin 5)
  deriving DecidableEq, Repr

/-- The fields of a mark (R56). -/
inductive MarkField where
  | depth
  | direction
  | action
  | disarm
  | state
  deriving DecidableEq, Repr

/-- The fields of the object map (R179). Fields of read-only objects keep their sub-index. -/
inductive Field where
  | machine (k : Fin 16)
  | kelly (k : Fin 6)
  | kellyReadout (sub : Nat)
  | sectionRec (i k : Fin 5)
  | iface (i : Fin 5) (k : Fin 3)
  | stationCount (i : Fin 5)
  | station (i : Fin 5) (j : Fin 8)
  | tool (k : Fin 3)
  | slurry (k : Fin 2)
  | ringControl (sub : Nat)
  | order (e : Fin 32) (f : OrderField)
  | owner (e : Fin 32)
  | completion (e : Fin 32) (sub : Nat)
  | model (sub : Nat)
  | limit (sub : Nat)
  | envelope (sub : Nat)
  | mask (l : Link)
  | union
  | tableLength
  | tableState
  | present (v : Fin 22)
  | cls (v : Fin 22)
  | notify (v : Fin 22)
  | fault (sub : Nat)
  | mark (k : Fin 8) (f : MarkField)
  | flags (l : Link)
  | enables (l : Link)
  | linkState (l : Link)
  | modeRec (sub : Nat)
  deriving DecidableEq, Repr

/-- `k` lies in `[lo, hi]`. -/
def within (lo hi k : Nat) : Bool := lo ≤ k && k ≤ hi

/-- The field at a sub-index of an entry (R63, R64). -/
def entryField (e : Fin 32) (sub : Nat) : Option Field :=
  let o (f : OrderField) : Option Field := some (.order e f)
  match sub with
  | 0x01 => o .kind
  | 0x02 => o .tag
  | 0x03 => o .gear
  | 0x04 => some (.owner e)
  | 0x10 => o .targetDepth
  | 0x11 => o .toTop
  | 0x12 => o .winchSpeed
  | 0x13 => o .sledTarget
  | 0x14 => o .sledSpeed
  | 0x15 => o .boreMode
  | 0x16 => o .advance
  | 0x17 => o .rotarySpeed
  | 0x18 => o .push
  | 0x19 => o .downforce
  | 0x1A => o .autoRelease
  | 0x1B => o .cycles
  | 0x1C => o .dwell
  | 0x1D => o .parkKind
  | 0x20 => o .planLength
  | _ =>
    if within 0x21 0x2A sub then
      (fin? 5 ((sub - 0x21) / 2)).map fun p => .order e (if sub % 2 = 1 then .pairIface p else .pairStation p)
    else if within 0x40 0x4E sub then some (.completion e sub)
    else none

/-- The field of a mark (R56; DESIGN CHOICE, log entry 13). -/
def markFieldAt (k : Fin 8) : Nat → Option Field
  | 0x01 => some (.mark k .depth)
  | 0x02 => some (.mark k .direction)
  | 0x03 => some (.mark k .action)
  | 0x04 => some (.mark k .disarm)
  | 0x05 => some (.mark k .state)
  | _ => none

/-- The link named by sub-index 1, 2 or 3. -/
def linkAt : Nat → Option Link
  | 1 => some .console
  | 2 => some .stability
  | 3 => some .recorder
  | _ => none

/-- The field at a sub-index of the notice object (R182). -/
def noticeField (sub : Nat) : Option Field :=
  if sub < 0x10 then (linkAt sub).map .flags
  else if sub < 0x20 then (linkAt (sub - 0x10)).map .enables
  else (linkAt (sub - 0x20)).map .linkState

/-- The sub-indexes of the model readouts (R179, R121). -/
def isModelSub (k : Nat) : Bool :=
  within 0x01 0x05 k || within 0x08 0x0C k || within 0x10 0x14 k || within 0x18 0x1C k || within 0x20 0x2B k ||
    within 0x50 0x53 k || within 0x58 0x5B k || within 0x60 0x64 k || within 0x68 0x6A k

/-- The sub-indexes of the limit set (R104). -/
def isLimitSub (k : Nat) : Bool :=
  within 0x01 0x11 k || within 0x21 0x26 k || within 0x31 0x36 k || within 0x41 0x46 k

/-- The sub-indexes of the fault controller (R162). -/
def isFaultSub (k : Nat) : Bool :=
  k = 0x01 || within 0x10 0x1F k || within 0x20 0x24 k || within 0x30 0x32 k

/-- The sub-index names a readout field. -/
def readoutIf (b : Bool) (f : Field) : Option Field := if b then some f else none

/-- The field at a sub-index of the reaction table (R150). -/
def tableField (sub : Nat) : Option Field :=
  if sub = 0x01 then some .tableLength
  else if sub = 0x02 then some .tableState
  else if within 0x10 0x25 sub then (fin? 22 (sub - 0x10)).map .present
  else if within 0x30 0x45 sub then (fin? 22 (sub - 0x30)).map .cls
  else if within 0x50 0x65 sub then (fin? 22 (sub - 0x50)).map .notify
  else none

/-- The field at a sub-index of an interface record (R7, R8). -/
def ifaceField (i : Fin 5) (sub : Nat) : Option Field :=
  if within 0x01 0x03 sub then (fin? 3 (sub - 1)).map (.iface i)
  else if sub = 0x04 then some (.stationCount i)
  else if within 0x10 0x17 sub then (fin? 8 (sub - 0x10)).map (.station i)
  else none

/-- The fields of an object, `none` where the object is not in the map (R179). The demand object holds no field. -/
def objectFields (obj : Nat) : Option (Nat → Option Field) :=
  if obj = 0x1000 then some fun k => if k = 0 then none else (fin? 16 (k - 1)).map .machine
  else if obj = 0x1010 then some fun k =>
    if within 0x20 0x22 k then some (.kellyReadout k) else if k = 0 then none else (fin? 6 (k - 1)).map .kelly
  else if within 0x1101 0x1105 obj then some fun k =>
    if k = 0 then none else (fin? 5 (obj - 0x1101)).bind fun i => (fin? 5 (k - 1)).map (.sectionRec i)
  else if within 0x1200 0x1204 obj then some fun k => (fin? 5 (obj - 0x1200)).bind fun i => ifaceField i k
  else if obj = 0x1300 then some fun k => if k = 0 then none else (fin? 3 (k - 1)).map .tool
  else if obj = 0x1400 then some fun k => if k = 0 then none else (fin? 2 (k - 1)).map .slurry
  else if obj = 0x2000 then some fun k => readoutIf (within 1 5 k) (.ringControl k)
  else if within 0x2100 0x211F obj then some fun k => (fin? 32 (obj - 0x2100)).bind fun e => entryField e k
  else if obj = 0x3000 then some fun k => readoutIf (isModelSub k) (.model k)
  else if obj = 0x3100 then some fun k => readoutIf (isLimitSub k) (.limit k)
  else if obj = 0x4000 then some fun k => readoutIf (within 1 8 k) (.envelope k)
  else if obj = 0x4100 then some fun k => if k = 4 then some .union else (linkAt k).map .mask
  else if obj = 0x5000 then some tableField
  else if obj = 0x5100 then some fun k => readoutIf (isFaultSub k) (.fault k)
  else if within 0x6000 0x6007 obj then some fun k => (fin? 8 (obj - 0x6000)).bind fun m => markFieldAt m k
  else if obj = 0x7000 then some noticeField
  else if obj = 0x7100 then some fun k => readoutIf (within 1 6 k) (.modeRec k)
  else if obj = 0x7F00 then some fun _ => none
  else none

/-! ### The profile's fields -/

def MachineRec.toList (r : MachineRec) : List (Option Int) :=
  [r.sledTravel, r.zTop, r.cMax, r.pMax, r.wMax, r.torqueLow, r.torqueHigh, r.constLow, r.constHigh, r.speedLow, r.speedHigh,
   r.winchMax, r.aCap, r.aRod, r.rDatum, r.rTop]

def KellyRec.toList (r : KellyRec) : List (Option Int) := [r.n, r.seatAngle, r.seatTol, r.holdIn, r.column, r.fallback]

def SectionRec.toList (r : SectionRec) : List (Option Int) := [r.length, r.mass, r.volume, r.torque, r.bottom]

def ToolRec.toList (r : ToolRec) : List (Option Int) := [r.mass, r.volume, r.height]

/-- Store field `k` of the machine record, in the order of R4. -/
def MachineRec.store (r : MachineRec) (k : Fin 16) (v : Int) : MachineRec :=
  match k.val with
  | 0 => { r with sledTravel := some v }
  | 1 => { r with zTop := some v }
  | 2 => { r with cMax := some v }
  | 3 => { r with pMax := some v }
  | 4 => { r with wMax := some v }
  | 5 => { r with torqueLow := some v }
  | 6 => { r with torqueHigh := some v }
  | 7 => { r with constLow := some v }
  | 8 => { r with constHigh := some v }
  | 9 => { r with speedLow := some v }
  | 10 => { r with speedHigh := some v }
  | 11 => { r with winchMax := some v }
  | 12 => { r with aCap := some v }
  | 13 => { r with aRod := some v }
  | 14 => { r with rDatum := some v }
  | _ => { r with rTop := some v }

/-- Store field `k` of the kelly record, in the order of R5. -/
def KellyRec.store (r : KellyRec) (k : Fin 6) (v : Int) : KellyRec :=
  match k with
  | 0 => { r with n := some v }
  | 1 => { r with seatAngle := some v }
  | 2 => { r with seatTol := some v }
  | 3 => { r with holdIn := some v }
  | 4 => { r with column := some v }
  | 5 => { r with fallback := some v }

/-- Store field `k` of a section record, in the order of R6. -/
def SectionRec.store (r : SectionRec) (k : Fin 5) (v : Int) : SectionRec :=
  match k with
  | 0 => { r with length := some v }
  | 1 => { r with mass := some v }
  | 2 => { r with volume := some v }
  | 3 => { r with torque := some v }
  | 4 => { r with bottom := some v }

/-- Store travel, push rating or pull rating of an interface record (R7). -/
def InterfaceRec.store (r : InterfaceRec) (k : Fin 3) (v : Int) : InterfaceRec :=
  match k with
  | 0 => { r with travel := some v }
  | 1 => { r with push := some v }
  | 2 => { r with pull := some v }

/-- Store field `k` of the tool record, in the order of R9. -/
def ToolRec.store (r : ToolRec) (k : Fin 3) (v : Int) : ToolRec :=
  match k with
  | 0 => { r with mass := some v }
  | 1 => { r with volume := some v }
  | 2 => { r with height := some v }

/-- The value of a scalar profile field or a station. -/
def Profile.value (p : Profile) : Field → Option Int
  | .machine k => (p.machine.toList[k.val]?).join
  | .kelly k => (p.kelly.toList[k.val]?).join
  | .sectionRec i k => (p.sections[i].toList[k.val]?).join
  | .iface i k => ([p.interfaces[i].travel, p.interfaces[i].push, p.interfaces[i].pull][k.val]?).join
  | .stationCount i => p.interfaces[i].count
  | .station i j => p.interfaces[i].stations[j]
  | .tool k => (p.tool.toList[k.val]?).join
  | _ => none

/-- A lowered station count makes the stations at or above it absent (R8). -/
def InterfaceRec.setCount (r : InterfaceRec) (v : Int) : InterfaceRec :=
  { r with count := some v, stations := Vector.ofFn fun j => if (j.val : Int) < v then r.stations[j] else none }

/-- Store a profile field. -/
def Profile.store (p : Profile) (f : Field) (v : Int) : Profile :=
  match f with
  | .machine k => { p with machine := p.machine.store k v }
  | .kelly k => { p with kelly := p.kelly.store k v }
  | .sectionRec i k => { p with sections := p.sections.set i (p.sections[i].store k v) }
  | .iface i k => { p with interfaces := p.interfaces.set i (p.interfaces[i].store k v) }
  | .stationCount i => { p with interfaces := p.interfaces.set i (p.interfaces[i].setCount v) }
  | .station i j =>
    let r := p.interfaces[i]
    { p with interfaces := p.interfaces.set i { r with stations := r.stations.set j (some v) } }
  | .tool k => { p with tool := p.tool.store k v }
  | _ => p

/-- The write ranges of the profile records, in steps (R4 to R9). -/
def machineRanges : List (Int × Int) :=
  [(1000, 15000), (-25000, 0), (100, 30000), (100, 30000), (100, 30000), (100, 15000), (100, 15000), (1, 2000), (1, 2000),
   (10, 600), (10, 600), (10, 1200), (1, 5000), (1, 5000), (-25000, 0), (-25000, 0)]
def kellyRanges : List (Int × Int) := [(2, 5), (80, 400), (20, 80), (200, 1000), (1000, 2000000), (20, 80)]
def sectionRanges : List (Int × Int) := [(2000, 20000), (100, 20000), (0, 5000), (100, 15000), (-5000, 30000)]
def ifaceRanges : List (Int × Int) := [(1000, 20000), (100, 20000), (100, 20000)]
def toolRanges : List (Int × Int) := [(0, 30000), (0, 10000), (300, 5000)]

/-- The write range of a profile field. -/
def profileRange : Field → Option (Int × Int)
  | .machine k => machineRanges[k.val]?
  | .kelly k => kellyRanges[k.val]?
  | .sectionRec _ k => sectionRanges[k.val]?
  | .iface _ k => ifaceRanges[k.val]?
  | .stationCount _ => some (1, 8)
  | .station _ _ => some (0, 20000)
  | .tool k => toolRanges[k.val]?
  | _ => none

/-- A value lies in a range. -/
def inRange (r : Int × Int) (v : Int) : Bool := r.1 ≤ v && v ≤ r.2

/-! ### The order part -/

/-- The value of an order field as it travels; `none` while absent. -/
def Order.value (o : Order) : OrderField → Option Int
  | .kind => some (codeIn kindList o.kind)
  | .tag => some o.tag
  | .gear => o.gear.map (codeIn gearList)
  | .targetDepth => o.targetDepth
  | .toTop => o.toTop.map boolCode
  | .winchSpeed => o.winchSpeed
  | .sledTarget => o.sledTarget
  | .sledSpeed => o.sledSpeed
  | .boreMode => o.boreMode.map (codeIn boreModeList)
  | .advance => o.advance
  | .rotarySpeed => o.rotarySpeed
  | .push => o.push
  | .downforce => o.downforce
  | .autoRelease => o.autoRelease.map boolCode
  | .cycles => o.cycles
  | .dwell => o.dwell
  | .parkKind => o.parkKind.map (codeIn parkKindList)
  | .planLength => o.planLength
  | .pairIface p => o.pairs[p].iface
  | .pairStation p => o.pairs[p].station

/-- The write range of an order field, in steps (R63). -/
def orderRange : OrderField → Int × Int
  | .kind => (0, 10)
  | .tag => (0, 65535)
  | .gear => (0, 1)
  | .targetDepth => (-25000, 150000)
  | .toTop => (0, 1)
  | .winchSpeed => (1, 1200)
  | .sledTarget => (0, 15000)
  | .sledSpeed => (1, 1000)
  | .boreMode => (0, 1)
  | .advance => (1, 20000)
  | .rotarySpeed => (1, 600)
  | .push => (0, 30000)
  | .downforce => (0, 30000)
  | .autoRelease => (0, 1)
  | .cycles => (1, 8)
  | .dwell => (1, 6000)
  | .parkKind => (0, 1)
  | .planLength => (1, 5)
  | .pairIface _ => (0, 4)
  | .pairStation _ => (0, 7)

/-- A field is used by the entry's kind and, where it is marked with a mode, by its bore mode (R63, R65). -/
def Order.uses (o : Order) : OrderField → Bool
  | .kind => true
  | .tag => true
  | .gear => o.kind = .bore || o.kind = .spin
  | .targetDepth => o.kind = .descend || o.kind = .hoist
  | .toTop => o.kind = .hoist
  | .winchSpeed => o.kind = .descend || o.kind = .hoist
  | .sledTarget => o.kind = .sled
  | .sledSpeed => o.kind = .sled
  | .boreMode => o.kind = .bore
  | .advance => o.kind = .bore
  | .rotarySpeed => o.kind = .bore || o.kind = .spin
  | .push => o.isLocked
  | .downforce => o.isHanging
  | .autoRelease => o.isLocked
  | .cycles => o.kind = .spin
  | .dwell => o.kind = .dwell
  | .parkKind => o.kind = .park
  | .planLength => o.kind = .engage
  | .pairIface _ => o.kind = .engage
  | .pairStation _ => o.kind = .engage

/-- A write of the kind: a different kind makes every parameter and the gear absent (R65). -/
def Order.setKind (o : Order) (k : Kind) : Order := if o.kind = k then o else Order.blank k o.tag

/-- A write of the bore mode: a different mode makes the mode's fields absent (R65). -/
def Order.setBoreMode (o : Order) (m : BoreMode) : Order :=
  if o.boreMode = some m then o else { o with boreMode := some m, push := none, downforce := none, autoRelease := none }

/-- Store an order field from its value in range. -/
def Order.store (o : Order) (f : OrderField) (v : Int) : Order :=
  match f with
  | .kind => o.setKind ((nameAt kindList v).getD .none)
  | .tag => { o with tag := v }
  | .gear => { o with gear := nameAt gearList v }
  | .targetDepth => { o with targetDepth := some v }
  | .toTop => { o with toTop := nameAt boolList v }
  | .winchSpeed => { o with winchSpeed := some v }
  | .sledTarget => { o with sledTarget := some v }
  | .sledSpeed => { o with sledSpeed := some v }
  | .boreMode => o.setBoreMode ((nameAt boreModeList v).getD .locked)
  | .advance => { o with advance := some v }
  | .rotarySpeed => { o with rotarySpeed := some v }
  | .push => { o with push := some v }
  | .downforce => { o with downforce := some v }
  | .autoRelease => { o with autoRelease := nameAt boolList v }
  | .cycles => { o with cycles := some v }
  | .dwell => { o with dwell := some v }
  | .parkKind => { o with parkKind := nameAt parkKindList v }
  | .planLength => { o with planLength := some v }
  | .pairIface p => { o with pairs := o.pairs.set p { o.pairs[p] with iface := some v } }
  | .pairStation p => { o with pairs := o.pairs.set p { o.pairs[p] with station := some v } }

/-- The interfaces named by the present pairs below a length, with their places. -/
def Order.named (o : Order) (length : Int) : List (Fin 5 × Int) :=
  ((List.finRange 5).filter fun p => (p.val : Int) < length).filterMap fun p => o.pairs[p].iface.map fun i => (p, i)

/-- The duplicate rule of R22 for a write of a plan field. -/
def Order.planAllows (o : Order) (f : OrderField) (v : Int) : Bool :=
  match f with
  | .planLength => decide ((o.named v).map Prod.snd).Nodup
  | .pairIface p =>
    match o.planLength with
    | some n => (o.named n).all fun e => e.1 = p || e.2 != v
    | none => true
  | _ => true

/-- Checks 3 to 5 of R65 on an order field. -/
def Entry.check (e : Entry) (f : OrderField) (v : Int) : Result :=
  if e.owner ≠ .console then .owned
  else if !e.order.uses f then .state
  else if !(inRange (orderRange f) v && e.order.planAllows f v) then .range
  else .ok

/-- The fields a kind requires, with their sub-indexes in rising order (R66). -/
def Order.required (o : Order) : List (Nat × OrderField) :=
  match o.kind with
  | .descend => [(0x10, .targetDepth), (0x12, .winchSpeed)]
  | .hoist => if o.toTop = some true then [(0x12, .winchSpeed)] else [(0x10, .targetDepth), (0x12, .winchSpeed)]
  | .sled => [(0x13, .sledTarget), (0x14, .sledSpeed)]
  | .engage => [(0x20, .planLength)]
  | .bore =>
    [(0x03, .gear), (0x15, .boreMode), (0x16, .advance), (0x17, .rotarySpeed)] ++
      (if o.boreMode = some .locked then [(0x18, .push)] else []) ++
      (if o.boreMode = some .hanging then [(0x19, .downforce)] else [])
  | .spin => [(0x03, .gear), (0x17, .rotarySpeed), (0x1B, .cycles)]
  | .dwell => [(0x1C, .dwell)]
  | .park => [(0x1D, .parkKind)]
  | _ => []

/-- The lowest sub-index among the absent required fields (R66). -/
def Order.firstMissing (o : Order) : Option Nat := (o.required.find? fun r => (o.value r.2).isNone).map Prod.fst

/-! ### Readouts -/

/-- The completion part (R64). -/
def Completion.value (c : Completion) (sub : Nat) : Option Int :=
  match sub with
  | 0x40 => some (codeIn outcomeList c.outcome)
  | 0x41 => c.reason.map reasonCode
  | 0x42 => c.figures.bind (·.startDepth)
  | 0x43 => c.figures.bind (·.endDepth)
  | 0x44 => c.figures.map (·.peakPush)
  | 0x45 => c.figures.map (·.peakPull)
  | 0x46 => c.figures.map (·.peakTorque)
  | 0x47 => c.figures.map (·.peakTension)
  | 0x48 => c.figures.map fun f => (f.stallCount : Int)
  | 0x49 => c.figures.map fun f => (f.seatAttempts : Int)
  | 0x4A => c.figures.map fun f => durationReadout f.durationMs
  | 0x4B => c.figures.map fun f => boolCode f.clamped
  | 0x4C => c.figures.map fun f => boolCode f.depthUncertain
  | 0x4D => c.figures.map fun f => boolCode f.downforceShort
  | 0x4E => c.figures.map fun f => boolCode f.releasedAfter
  | _ => none

/-- The ring control readouts (R67). -/
def Sequencer.value (q : Sequencer) (sub : Nat) : Option Int :=
  match sub with
  | 1 => some (q.next.val : Int)
  | 2 => some (codeIn seqStateList q.state)
  | 3 => q.stroke.map fun t => (t.index.val : Int)
  | 4 => q.stroke.map fun t => codeIn phaseList t.phase
  | 5 => q.stroke.map fun t => codeIn endStateList t.endState
  | _ => none

/-- The readouts of an interface or section exist below the committed section count (R179). -/
def State.counted (s : State) (k : Nat) : Option (Fin 5) :=
  if s.profile.committed && k < s.profile.count then fin? 5 k else none

/-- The channel readouts (R121). -/
def Axes.value (a : Axes) (sub : Nat) : Option Int :=
  match sub with
  | 0x50 => some (channelModeCode a.hoist.mode)
  | 0x51 => some (setpointReadout a.hoist.setpoint)
  | 0x52 => some a.hoist.demand
  | 0x53 => some (boolCode (!a.hoist.brakeApplied))
  | 0x58 => some (channelModeCode a.crowd.mode)
  | 0x59 => some (setpointReadout a.crowd.setpoint)
  | 0x5A => some a.crowd.demand
  | 0x5B => some (boolCode (!a.crowd.brakeApplied))
  | 0x60 => some (channelModeCode a.rotary.mode)
  | 0x61 => some (setpointReadout a.rotary.setpoint)
  | 0x62 => a.rotary.cap
  | 0x63 => some a.rotary.demand
  | 0x64 => some (boolCode (!a.rotary.brakeApplied))
  | 0x68 => some (heldGearCode a.gear)
  | 0x69 => some (shiftCode a.shift)
  | 0x6A => some (codeIn governorList a.governor)
  | _ => none

/-- The model readouts (R179); TOB travels as false 0, true 1 (DESIGN CHOICE, log entry 60). -/
def State.modelValue (s : State) (sub : Nat) : Option Int :=
  if within 0x01 0x05 sub then (s.counted (sub - 0x01)).map fun k => ifStateCode (s.kelly.st k)
  else if within 0x08 0x0C sub then (s.counted (sub - 0x08)).bind fun k => (s.kelly.st k).station.map fun j => (j.val : Int)
  else if within 0x10 0x14 sub then (s.counted (sub - 0x10)).bind fun k => s.kelly.interfaces[k].position
  else if within 0x18 0x1C sub then (s.counted (sub - 0x18)).bind s.sectionBottom
  else
    match sub with
    | 0x20 => s.toolDepth
    | 0x21 => s.driveDepth
    | 0x22 => s.kelly.ropeDepth
    | 0x23 => s.unplaced
    | 0x24 => s.kelly.toolLoad
    | 0x25 => some (boolCode s.kelly.tob)
    | 0x26 => some s.kelly.debt
    | 0x27 => some s.kelly.accumulator
    | 0x28 => s.kelly.torque
    | 0x29 => s.kelly.crowdForce
    | 0x2A => s.kelly.angle
    | 0x2B => s.kelly.sled
    | _ => s.axes.value sub

/-- The value of S(k+1) in a list of section readouts. -/
def sectionValue (v : Vector (Option Int) 5) (k : Nat) : Option Int := (fin? 5 k).bind fun i => v[i]

/-- The limit set readouts (R104). -/
def Limits.value (m : Limits) (sub : Nat) : Option Int :=
  if within 0x21 0x25 sub then sectionValue m.set.weights (sub - 0x21)
  else if within 0x31 0x35 sub then sectionValue m.set.fractions (sub - 0x31)
  else if within 0x41 0x45 sub then sectionValue m.dry.sections (sub - 0x41)
  else
    match sub with
    | 0x01 => some m.set.push
    | 0x02 => some m.set.pull
    | 0x03 => some m.set.torque
    | 0x04 => some m.set.hoistLine
    | 0x05 => some m.set.rotationCap
    | 0x06 => m.set.holdback
    | 0x07 => m.set.wTotal
    | 0x08 => m.dry.total
    | 0x09 => m.set.pushMargin
    | 0x0A => m.set.pullMargin
    | 0x0B => m.set.freeLength
    | 0x0C => m.set.buckling
    | 0x0D => m.set.ePush
    | 0x0E => m.set.ePull
    | 0x0F => m.set.eTorque
    | 0x10 => some (codeIn bindingList m.set.binding)
    | 0x11 => some (boolCode m.holdInLost)
    | 0x26 => m.set.toolWeight
    | 0x36 => m.set.toolFraction
    | 0x46 => m.dry.tool
    | _ => none

/-- The envelope readouts (R139). -/
def Envelope.value (e : Envelope) (sub : Nat) : Option Int :=
  match sub with
  | 1 => e.record.map fun r => (r.sequence : Int)
  | 2 => e.record.map fun r => codeIn stabilityList r.state
  | 3 => e.record.map (·.push)
  | 4 => e.record.map (·.pull)
  | 5 => e.record.map (·.torque)
  | 6 => some (codeIn freshnessList e.freshness)
  | 7 => some (boolCode e.lossLatch)
  | 8 => some (boolCode e.stopLatch)
  | _ => none

/-- The context readouts (R155, R162). -/
def Context.value (c : Context) (sub : Nat) : Option Int :=
  match sub with
  | 0x10 => some (vectorCode c.serviceVector)
  | 0x11 => some (codeIn classList c.serviceClass)
  | 0x12 => some (vectorCode c.firstVector)
  | 0x13 => some (vectorCode c.firstRaised)
  | 0x14 => some (codeIn classList c.firstClass)
  | 0x15 => c.secondVector.map vectorCode
  | 0x16 => c.secondRaised.map vectorCode
  | 0x17 => c.thirdVector.map vectorCode
  | 0x18 => some (c.laterCount : Int)
  | 0x19 => c.lastLater.map vectorCode
  | 0x1A => c.ringIndex.map fun i => (i.val : Int)
  | 0x1B => c.phase.map (codeIn phaseList)
  | 0x1C => c.depth
  | 0x1D => c.crowdForce
  | 0x1E => c.torque
  | 0x1F => c.tension
  | _ => none

/-- The fault controller readouts (R162). -/
def Faults.value (f : Faults) (sub : Nat) : Option Int :=
  match sub with
  | 0x01 => some (codeIn controllerList f.state)
  | 0x20 => some (boolCode f.lockoutRecord.isSome)
  | 0x21 => f.lockoutRecord.map fun r => vectorCode r.first
  | 0x22 => f.lockoutRecord.bind fun r => r.compounding.map vectorCode
  | 0x23 => f.lockoutRecord.map fun r => vectorCode r.locking
  | 0x24 => f.lockoutRecord.bind (·.depth)
  | 0x30 => f.lastFault.map fun r => vectorCode r.vector
  | 0x31 => f.lastFault.map fun r => codeIn classList r.cls
  | 0x32 => f.lastFault.bind (·.depth)
  | _ => f.context.bind fun c => c.value sub

/-- The mode record readouts (R164). -/
def ModeCtl.value (c : ModeCtl) (sub : Nat) : Option Int :=
  match sub with
  | 1 => some (codeIn modeList c.mode)
  | 2 => c.park.map fun p => codeIn parkKindList p.kind
  | 3 => c.park.bind (·.refs.rope)
  | 4 => c.park.bind (·.refs.sled)
  | 5 => c.park.bind (·.refs.angle)
  | 6 => some (boolCode (c.reseat != .idle))
  | _ => none

/-- A field of a mark; the disarm field reads 0 (R56). -/
def Mark.value (m : Mark) : MarkField → Int
  | .depth => m.depth
  | .direction => codeIn directionList m.direction
  | .action => codeIn actionList m.action
  | .disarm => 0
  | .state => codeIn markStateList m.state

/-- The value a READ of a field finds, `none` while it is absent (R177). -/
def State.read (s : State) (f : Field) : Option Int :=
  match f with
  | .machine _ | .kelly _ | .sectionRec _ _ | .iface _ _ | .stationCount _ | .station _ _ | .tool _ => s.profile.value f
  | .kellyReadout sub =>
    if sub = 0x20 then some (boolCode s.profile.committed)
    else if !s.profile.committed then none
    else if sub = 0x21 then some s.profile.nestedReach
    else some s.profile.topToTip
  | .slurry k => some (if k = 0 then s.slurry.density else s.slurry.level)
  | .ringControl sub => s.seq.value sub
  | .order e f => s.ring[e].order.value f
  | .owner e => some (codeIn ownerList s.ring[e].owner)
  | .completion e sub => s.ring[e].completion.bind fun c => c.value sub
  | .model sub => s.modelValue sub
  | .limit sub => s.limits.value sub
  | .envelope sub => s.env.value sub
  | .mask l => some ((s.masks.get l).toNat : Int)
  | .union => some (s.union.toNat : Int)
  | .tableLength => some (s.faults.length : Int)
  | .tableState => some (boolCode s.faults.committed)
  | .present v => some (boolCode s.faults.descriptors[v].present)
  | .cls v => some (codeIn classList s.faults.descriptors[v].cls)
  | .notify v => some (s.faults.descriptors[v].notify.toNat : Int)
  | .fault sub => s.faults.value sub
  | .mark k f => some (s.marks[k].value f)
  | .flags l => some ((s.links.get l).flags.toNat : Int)
  | .enables l => some ((s.links.get l).enables.toNat : Int)
  | .linkState l => some (boolCode (!(s.links.get l).up))
  | .modeRec sub => s.ctl.value sub

/-! ### Rights and checks (R177, R180) -/

/-- The kinds of a request by their codes (R176). -/
def kindRead : Nat := 0
def kindWrite : Nat := 1
def kindSet : Nat := 2
def kindClear : Nat := 3
def kindToggle : Nat := 4
def kindDemand : Nat := 5

/-- The rights of R180 on a field: any link reads; the kinds of a write each link may use. -/
def Field.allows (f : Field) (l : Link) (kind : Nat) : Bool :=
  if kind = kindRead then true
  else
    match f with
    | .machine _ | .kelly _ | .sectionRec _ _ | .iface _ _ | .stationCount _ | .station _ _ | .tool _ | .slurry _ =>
      l = .recorder && kind = kindWrite
    | .mark _ g => l = .recorder && kind = kindWrite && g != .state
    | .order _ _ => l = .console && kind = kindWrite
    | .tableLength | .present _ | .cls _ | .notify _ => l = .stability && kind = kindWrite
    | .mask m => l = m
    | .flags m => l = m && (kind = kindWrite || kind = kindClear)
    | .enables m => l = m
    | _ => false

/-- The demands (R181). -/
inductive Demand where
  | start
  | pause
  | resume
  | abort
  | flush
  | handover
  | unpark
  | commitReactions
  | restore
  | unitReset
  | clearLockoutRecord
  | commitProfile
  | reconfigure
  deriving DecidableEq, Repr

/-- The demand at a sub-index of object 0x7F00. -/
def demandAt : Nat → Option Demand
  | 0x01 => some .start
  | 0x02 => some .pause
  | 0x03 => some .resume
  | 0x04 => some .abort
  | 0x05 => some .flush
  | 0x06 => some .handover
  | 0x07 => some .unpark
  | 0x10 => some .commitReactions
  | 0x11 => some .restore
  | 0x12 => some .unitReset
  | 0x13 => some .clearLockoutRecord
  | 0x20 => some .commitProfile
  | 0x21 => some .reconfigure
  | _ => none

/-- The link a demand is taken from. -/
def Demand.link : Demand → Link
  | .start | .pause | .resume | .abort | .flush | .handover | .unpark => .console
  | .commitReactions | .restore | .unitReset | .clearLockoutRecord => .stability
  | .commitProfile | .reconfigure => .recorder

/-- The field a request names. -/
def Request.field (q : Request) : Option Field := (objectFields q.object).bind fun f => f q.sub

/-- Checks 1 to 5 of R177, the result of the first that fails, or OK. -/
def Request.vet (l : Link) (q : Request) : Result :=
  if 5 < q.kind then .access
  else if (objectFields q.object).isNone then .noObject
  else if (q.kind = kindDemand) ≠ (q.object = 0x7F00) then .access
  else if q.kind = kindDemand then
    match demandAt q.sub with
    | some d => if d.link = l then .ok else .access
    | none => .noObject
  else
    match q.field with
    | some f => if f.allows l q.kind then .ok else .access
    | none => .noObject

/-! ### Which command takes a request -/

/-- The commands of the table that take a held request. -/
inductive Row where
  | other
  | profileField
  | stationCount
  | station
  | slurry
  | markDepth
  | markDisarm
  | markField
  | orderField
  | kind
  | boreMode
  | plan
  | reactionClass
  | reactionTable
  | inhibitWrite
  | inhibitSet
  | inhibitClear
  | inhibitToggle
  | flagsWrite
  | flagsClear
  | enablesWrite
  | enablesSet
  | enablesClear
  | enablesToggle
  | demand (d : Demand)
  deriving DecidableEq, Repr

/-- The command that takes a WRITE of a field. -/
def Field.writeRow : Field → Row
  | .machine _ | .kelly _ | .sectionRec _ _ | .iface _ _ | .tool _ => .profileField
  | .stationCount _ => .stationCount
  | .station _ _ => .station
  | .slurry _ => .slurry
  | .mark _ .depth => .markDepth
  | .mark _ .disarm => .markDisarm
  | .mark _ .direction => .markField
  | .mark _ .action => .markField
  | .order _ .kind => .kind
  | .order _ .boreMode => .boreMode
  | .order _ .planLength => .plan
  | .order _ (.pairIface _) => .plan
  | .order _ (.pairStation _) => .plan
  | .order _ _ => .orderField
  | .cls _ => .reactionClass
  | .tableLength | .present _ | .notify _ => .reactionTable
  | .mask _ => .inhibitWrite
  | .flags _ => .flagsWrite
  | .enables _ => .enablesWrite
  | _ => .other

/-- The command that takes a SET, CLEAR or TOGGLE of a field. -/
def Field.changeRow (f : Field) (kind : Nat) : Row :=
  match f with
  | .mask _ => if kind = kindSet then .inhibitSet else if kind = kindClear then .inhibitClear else .inhibitToggle
  | .enables _ => if kind = kindSet then .enablesSet else if kind = kindClear then .enablesClear else .enablesToggle
  | .flags _ => if kind = kindClear then .flagsClear else .other
  | _ => .other

/-- The command that takes a request, by its kind, object and sub-index. -/
def Request.row (q : Request) : Row :=
  if q.kind = kindDemand then
    if q.object = 0x7F00 then ((demandAt q.sub).map .demand).getD .other else .other
  else if q.kind = kindWrite then (q.field.map Field.writeRow).getD .other
  else if q.kind = kindSet || q.kind = kindClear || q.kind = kindToggle then
    (q.field.map fun f => f.changeRow q.kind).getD .other
  else .other

end Sys2Proof.Machine
end

