-- ==== Sys2Proof/Machine/Sequencer.lean ====
section
/-! DEFINITION. The sequencer's operations: closing and completing a stroke (R70), the phase boundary of an inhibited stroke (R79),
the beginning of every phase (R85 to R101, R168 to R172), the rotations of the kelly model as strokes run them (R24 to R31). -/
namespace Sys2Proof.Machine

/-! ### The stroke in flight -/

/-- Ask the three channels for the requests of a phase. -/
def State.ask (hoist crowd rotary : PhaseReq) (s : State) : State :=
  ((s.phaseRequest .hoist hoist).phaseRequest .crowd crowd).phaseRequest .rotary rotary

/-- The stroke passes into a phase. -/
def State.toPhase (p : Phase) (s : State) : State := s.onStroke fun t => { t with phase := p }

/-- The stall timer, the relief turn and the no-advance window end with the motion (R135, R136). -/
def State.endBoreWatches (s : State) : State :=
  s.onAxes fun a => { a with stallTimer := none, relief := none, window := none }

/-- No phase is left to run: the timers of the phases stop (R70), the unseat watch and the stuck watch of a SURVEY among them (DESIGN CHOICE,
log entry 58). -/
def State.closeStroke (s : State) : State :=
  (s.onStroke fun t => { t with
    closed := true, sledWatch := none, rotationLimit := none, dwell := none, releaseDwell := none, unseatWatch := none,
    stuckWatch := none }).endBoreWatches

/-- A normal stop for the stroke's remaining motion: the crowd request of a LATCH park is not the stroke's (R75, R172; DESIGN
CHOICE, log entry 55). -/
def State.stopStroke (s : State) : State :=
  let s := s.normalStopOn .hoist
  (if s.ctl.latchRequest then s else s.normalStopOn .crowd).normalStopOn .rotary

/-- A phase boundary: an inhibited stroke begins no further phase (R79). Its channels get their normal stop at the boundary (DESIGN CHOICE, log
entry 45). -/
def State.boundary (next : State → State) (s : State) : State :=
  match s.seq.stroke with
  | some t =>
    if t.inhibited then
      (s.onStroke fun t => (t.decideOutcome .refused (some .inhibited)).raiseEnd .held).closeStroke.stopStroke
    else next s
  | none => s

/-- The stroke stands in its motion phase with its outcome open (R81) (DEDUCED, log entry 20). -/
def Stroke.inMotion (t : Stroke) : Bool :=
  !t.closed && !t.met && t.outcome.isNone &&
    (t.phase = .run || t.phase = .move || t.phase = .rampUp || t.phase = .advance || t.phase = .turnCw || t.phase = .turnCcw ||
      t.phase = .wait)

/-- A BORE turns and crowds: RAMP_UP or ADVANCE, its motion not ended. -/
def Stroke.boring (t : Stroke) : Bool := t.inMotion && (t.phase = .rampUp || t.phase = .advance)

/-- The stroke in flight while it stands in its motion phase. -/
def State.moving (s : State) : Option Stroke := s.seq.stroke.filter Stroke.inMotion

/-! ### Requests of the bores (R94 to R98) -/

/-- The crowd request of a LOCKED BORE under a push limit, in its present phase (R94, R95, R96). -/
def State.lockedCrowd (t : Stroke) (push : Int) (s : State) : Int :=
  let low := min s.profile.holdIn push
  if t.phase = .advance then
    let full := min (fig (s.orderOf t).push) push
    if s.axes.relief.isSome then max full low else full
  else low

/-- The hoist request of a HANGING BORE: the holdback, a free value while it is absent (R98, DESIGN CHOICE, log entry 12). -/
def State.holdbackRequest (s : State) : Int := s.limits.set.holdback.getD (Config.holdbackBeforeWeights s.free)

/-- DOWNFORCE_SHORT at a forming of the holdback while the stroke is in RAMP_UP or ADVANCE (R98, R118). -/
def State.testShort (w : LimitSet) (s : State) : State :=
  match s.seq.stroke with
  | some t =>
    if (t.phase = .rampUp || t.phase = .advance) && downforceShort s.limits.downforce w then
      s.onStroke fun t => { t with figures := { t.figures with downforceShort := true } }
    else s
  | none => s

/-! ### Beginning phases -/

/-- RAMP_DOWN: the closing phase of DESCEND, HOIST and BORE (R85, R87, R95, R98). The tension of a HANGING BORE counts an absent W_total as 0 and is
5.0 kN then (DESIGN CHOICE, log entry 72). -/
def State.beginRampDown (s : State) : State :=
  match s.seq.stroke with
  | none => s
  | some t =>
    let o := s.orderOf t
    let s := s.toPhase .rampDown
    if o.isLocked then (s.phaseRequest .rotary .brake).phaseRequest .crowd (.force (min s.profile.holdIn s.limits.set.push))
    else if o.isHanging then
      (s.withdrawDownforce.phaseRequest .rotary .brake).phaseRequest .hoist
        (.tension (max leastTension (min (fig s.limits.set.wTotal) s.limits.set.hoistLine)))
    else s.phaseRequest .hoist .brake

/-- The motion phase ends with an outcome, and the closing phases begin (R71, R81). A kind without a closing phase gets a normal stop of its
channels at the ending (DESIGN CHOICE, log entry 46). -/
def State.endMotion (o : Outcome) (r : Option Reason) (s : State) : State :=
  match s.moving with
  | none => s
  | some t =>
    let k := (s.orderOf t).kind
    let s := s.onStroke fun t => t.decideOutcome o r
    if k = .descend || k = .hoist || k = .bore then s.endBoreWatches.boundary State.beginRampDown
    else s.closeStroke.stopStroke

/-- RAMP_UP of either BORE mode (R94, R98). -/
def State.beginRampUp (s : State) : State :=
  match s.seq.stroke with
  | none => s
  | some t =>
    let o := s.orderOf t
    let s := (s.toPhase .rampUp).onStroke fun t => { t with origin := s.toolDepth }
    let turn : PhaseReq := .speed (t.rotarySpeed * fine)
    if o.isHanging then
      let s := s.handDownforce (fig o.downforce)
      ((s.onStroke fun t => { t with windowWatch := true }).testShort s.limits.set).ask (.tension s.holdbackRequest) .brake turn
    else s.ask (.tension leastTension) (.force (min s.profile.holdIn s.limits.set.push)) turn

/-- ADVANCE of either BORE mode (R94, R98), with its no-advance window (R136). -/
def State.beginAdvance (s : State) : State :=
  match s.seq.stroke with
  | none => s
  | some t =>
    let s := (s.toPhase .advance).restartWindow s.toolDepth
    if (s.orderOf t).isLocked then
      s.phaseRequest .crowd (.force (s.lockedCrowd { t with phase := .advance } s.limits.set.push))
    else s

/-- A turn of a SPIN (R99). -/
def State.beginTurn (cw : Bool) (s : State) : State :=
  match s.seq.stroke with
  | none => s
  | some t =>
    let v := t.rotarySpeed * fine
    ((s.toPhase (if cw then .turnCw else .turnCcw)).onStroke fun t =>
      { t with turnOrigin := s.kelly.angle, turnStopping := false }).ask .brake .brake (.speed (if cw then v else -v))

/-- The first turn of a SPIN starts the rotation time limit (R100). -/
def State.beginSpin (s : State) : State :=
  (s.onStroke fun t => { t with rotationLimit := some 30000 }).beginTurn true

/-- The phase after GEAR. -/
def State.beginAfterGear (s : State) : State :=
  match s.seq.stroke with
  | none => s
  | some t => if (s.orderOf t).kind = .spin then s.beginSpin else s.beginRampUp

/-- The sequencer asks for a shift (R134). -/
def Axes.askShift (g : Gear) (a : Axes) : Axes :=
  match a.shift with
  | .shifting _ => { a with queuedShift := some g }
  | _ => { a with shift := .pending g, queuedShift := none }

/-- A shift not begun is withdrawn (R134), and with it one that waits for the shift in progress to end (DESIGN CHOICE, log entry 80). -/
def Axes.withdrawShift (a : Axes) : Axes :=
  match a.shift with
  | .pending _ => { a with shift := .idle, queuedShift := none }
  | _ => { a with queuedShift := none }

/-- The order's gear differs from the held gear, or the held gear is unknown. -/
def State.needsShift (o : Order) (s : State) : Bool := s.axes.gear.isNone || s.axes.gear != o.gear

/-- GEAR of a BORE or SPIN (R93). -/
def State.beginGear (o : Order) (s : State) : State :=
  ((s.toPhase .gear).ask (if o.kind = .bore then .tension leastTension else .brake) .brake .brake).onAxes
    (Axes.askShift (o.gear.getD .low))

/-- The sled watch starts with a reference (R90). -/
def Stroke.startSledWatch (ref : Option Int) (t : Stroke) : Stroke := { t with sledWatch := some 10000, sledRef := fig ref }

/-! ### Rotations (R24 to R31) -/

/-- The pairs of a plan below its length; `none` where one is absent or outside its range (R23). -/
def Order.plan (o : Order) : Option (List (Fin 5 × Fin 8)) :=
  ((List.finRange 5).filter fun p => (p.val : Int) < fig o.planLength).mapM fun p =>
    match o.pairs[p].iface, o.pairs[p].station with
    | some i, some j => (fin? 5 i.toNat).bind fun i => (fin? 8 j.toNat).map fun j => (i, j)
    | _, _ => none

/-- Condition 3 of R23 holds of nothing: every pair names an interface below n that is ALIGNED at the listed station. -/
def State.planAligned (o : Order) (s : State) : Bool :=
  match o.plan with
  | some l => l.all fun e => decide (e.1.val < s.profile.count) && s.kelly.st e.1 = .aligned e.2
  | none => false

/-- Condition 4 of R23 holds of nothing: no unlisted interface is ALIGNED. -/
def State.planOnly (o : Order) (s : State) : Bool :=
  s.profile.members.all fun k => !(s.kelly.st k).isAligned || (o.plan.getD []).any fun e => e.1 = k

/-- The planned interfaces become SEATING at their stations. -/
def Kelly.seat (l : List (Fin 5 × Fin 8)) (m : Kelly) : Kelly :=
  m.mapIf fun k r =>
    match l.find? fun e => e.1 = k with
    | some e => { r with state := .seating e.2 }
    | none => r

/-- A clockwise attempt begins from a start angle (R24, R26). -/
def State.beginAttempt (n : Nat) (origin : Option Int) (s : State) : State :=
  match s.seq.stroke with
  | none => s
  | some t =>
    let old := s.kelly
    let s := (s.toPhase .seating).onStroke fun t => { t with figures := { t.figures with seatAttempts := n } }
    let s := s.onKelly fun m => { m.seat ((s.orderOf t).plan.getD []) with
      rotation := some ⟨.seating, .turning, origin, s.profile.confirmTorque, false, false⟩ }
    (s.noteEngagement old).phaseRequest .rotary (.creep true)

/-- The seating rotation of an ENGAGE begins (R24). -/
def State.beginSeating (s : State) : State :=
  let crowd : Int := if s.firstEngaged then s.profile.holdIn else 0
  ((s.phaseRequest .hoist (.tension leastTension)).phaseRequest .crowd (.force crowd)).beginAttempt 1 s.kelly.angle

/-- The anticlockwise turning of an unseating rotation begins (R29, steps 2 and 3). -/
def State.beginUnseating (s : State) : State :=
  let old := s.kelly
  let s := s.toPhase .unseating
  let s := s.onKelly fun m => { m.mapState IfState.toUnseating with
    rotation := some ⟨.unseating, .turning, m.angle, s.profile.confirmTorque, false, false⟩ }
  (s.noteEngagement old).phaseRequest .rotary (.creep false)

/-- Change the rotation in progress. -/
def State.onRotation (f : Rotation → Rotation) (s : State) : State :=
  s.onKelly fun m => { m with rotation := m.rotation.map f }

/-- The creep reverses back toward its start angle (R26, R31, R34). No boundary stops an inhibited stroke here (DESIGN CHOICE, log entry 43). -/
def State.creepBack (sense : Sense) (s : State) : State :=
  ((s.onRotation fun r => { r with stage := .back }).toPhase .creepBack).phaseRequest .rotary (.creep (sense = .unseating))

/-- The SEATING interfaces return to released states, and the rotation is over (R25, R26, R35). A rotation that is not confirmed is over at the
event that decides it, before its rotary has run down (DESIGN CHOICE, log entry 39). -/
def State.releaseSeating (s : State) : State :=
  let old := s.kelly
  ((s.onKelly fun m => m.release s.profile IfState.isSeating).endRotation).noteEngagement old

/-- The UNSEATING interfaces return to ENGAGED, and the rotation is over (R31, R35), at that event (DESIGN CHOICE, log entry 39). -/
def State.reEngage (s : State) : State :=
  let old := s.kelly
  ((s.onKelly fun m => m.mapState fun x => if x.isUnseating then x.toEngaged else x).endRotation).noteEngagement old

/-- The end of the creep back of a seating attempt (R26, R34). The boundary of an inhibited stroke comes before the checks of a retry (DESIGN
CHOICE, log entry 41); an aborted stroke's other channels get their normal stop here (DESIGN CHOICE, log entry 59), and its third overrun
raises no SEAT_ATTEMPTS (DESIGN CHOICE, log entry 71). -/
def State.endSeatBack (r : Rotation) (s : State) : State :=
  let s := s.releaseSeating.phaseRequest .rotary .brake
  match s.seq.stroke with
  | none => s
  | some t =>
    if r.aborted then s.closeStroke.stopStroke
    else if t.met || t.closed then s
    else if 3 ≤ t.figures.seatAttempts then s.raise .seatAttempts
    else
      s.boundary fun s =>
        let o := s.orderOf t
        if s.kelly.tob && s.planAligned o && s.planOnly o then s.beginAttempt (t.figures.seatAttempts + 1) r.origin
        else s.raise .seatAttempts

/-- The end of the creep back of a failed unseating: UNSEAT_FAILED now, or once an aborted stroke has ended (R31, R34), whose other channels
get their normal stop here (DESIGN CHOICE, log entry 59). -/
def State.endUnseatBack (r : Rotation) (s : State) : State :=
  let s := s.reEngage.phaseRequest .rotary .brake
  if r.aborted then (s.onKelly fun m => { m with unseatFailedDue := true }).closeStroke.stopStroke else s.raise .unseatFailed

/-- A confirmed seating (R25). -/
def State.confirmSeat (s : State) : State :=
  let old := s.kelly
  let s := s.onKelly fun m => m.mapState fun x => if x.isSeating then x.toEngaged else x
  (((s.onRotation fun r => { r with stage := .resting }).phaseRequest .rotary .brake).startSeatSettle).noteEngagement old

/-- A confirmed unseating (R30); a BORE's record then carries RELEASED_AFTER. -/
def State.confirmUnseat (s : State) : State :=
  let old := s.kelly
  let s := s.onKelly fun m => { m.release s.profile IfState.isUnseating with releaseSettle := some 1500 }
  let s := (s.onRotation fun r => { r with stage := .resting }).phaseRequest .rotary .brake
  let s := s.stopSeatSettle.noteEngagement old
  match s.seq.stroke with
  | some t =>
    if (s.orderOf t).kind = .bore then s.onStroke fun t => { t with figures := { t.figures with releasedAfter := true } } else s
  | none => s

/-- A pressure sample classified by a rotation that turns in its own direction (R25, R30, R31). A release confirmed under an ABORT gives the
stroke's channels their normal stop (R34, R75; DESIGN CHOICE, log entry 59). -/
def State.rotationTorque (s : State) : State :=
  match s.kelly.rotation, s.kelly.torque with
  | some r, some q =>
    if r.stage = .turning && !r.interrupted && r.confirm ≤ magnitude q then
      let a := r.turned s.kelly.angle
      match r.sense with
      | .seating =>
        if a < s.profile.seat - s.profile.tol then
          ((s.releaseSeating).phaseRequest .rotary .brake).raise .seatEarly
        else if a ≤ s.profile.seat + s.profile.tol then s.confirmSeat
        else s
      | .unseating =>
        if a < s.profile.seat - s.profile.tol then s.creepBack .unseating
        else if a ≤ s.profile.seat + s.profile.tol then if r.aborted then s.confirmUnseat.stopStroke else s.confirmUnseat
        else s
    else s
  | _, _ => s

/-- An angle sample classified by a rotation: overrun, failure, or the end of a creep back (R26, R31). -/
def State.rotationAngle (s : State) : State :=
  match s.kelly.rotation with
  | some r =>
    if r.interrupted then s
    else
      let a := r.turned s.kelly.angle
      match r.stage with
      | .turning => if s.profile.seat + s.profile.tol < a then s.creepBack r.sense else s
      | .back =>
        if a ≤ 0 then
          match r.sense with
          | .seating => s.endSeatBack r
          | .unseating => s.endUnseatBack r
        else s
      | .resting => s
  | none => s

/-- The decision of an interrupted rotation by the angle reached (R35). An unseating that failed under an ABORT and is interrupted in its creep
back raises UNSEAT_FAILED here, not after the end of the stroke (DESIGN CHOICE, log entry 63). -/
def State.decideRotation (r : Rotation) (s : State) : State :=
  let far := decide (s.profile.seat - s.profile.tol ≤ r.turned s.kelly.angle)
  match r.sense, r.stage with
  | .seating, .turning => if far then s.chainLostByDecision else s.releaseSeating
  | .seating, _ => s.releaseSeating
  | .unseating, .turning => if far then s.chainLostByDecision else s.reEngage
  | .unseating, _ => s.reEngage.raiseDecision .unseatFailed

/-- The rotary has come to rest after a stop: at rest, its setpoint zero, no stop of the fault controller still on its way
(DEDUCED, log entry 21). -/
def State.rotaryStopped (s : State) : Bool :=
  s.axes.rotary.atRest && s.axes.rotary.setpoint = 0 && s.mail.orders.isEmpty

/-- What a rotation waits for at rest: the end after a confirmation, or the decision of an interruption (R25, R30, R35). -/
def State.progressRotation (s : State) : State :=
  match s.kelly.rotation with
  | none => s
  | some r =>
    if r.stage = .resting then
      if s.axes.rotary.atRest then
        let s := s.endRotation
        match s.seq.stroke with
        | some t =>
          let k := (s.orderOf t).kind
          (if k = .engage || k = .release then s.onStroke fun t => t.decideOutcome .done none else s).closeStroke
        | none => s
      else s
    else if r.interrupted && s.rotaryStopped then s.decideRotation r
    else s

/-- The re-seat check at rest (R175). -/
def State.progressReseat (s : State) : State :=
  match s.ctl.reseat with
  | .checking _ confirmed interrupted =>
    if confirmed then
      if s.axes.rotary.atRest then s.changeMode .operating else s
    else if interrupted && s.rotaryStopped then { s with ctl := { s.ctl with reseat := .idle } }
    else s
  | .idle => s

/-- The relief turn at rest (R135); an origin not yet sampled is recorded as none (DESIGN CHOICE, log entry 76). -/
def State.progressRelief (s : State) : State :=
  match s.axes.relief, s.seq.stroke with
  | some r, some t =>
    if s.axes.rotary.atRest then
      match r.stage with
      | .stopping =>
        (s.onAxes fun a => { a with relief := some ⟨.turning, s.kelly.angle⟩ }).phaseRequest .rotary
          (.speed (-(t.rotarySpeed * fine)))
      | .turning => s
      | .unwinding =>
        let s := (s.onAxes fun a => { a with relief := none }).phaseRequest .rotary (.speed (t.rotarySpeed * fine))
        if (s.orderOf t).isLocked then s.phaseRequest .crowd (.force (s.lockedCrowd t s.limits.set.push)) else s
    else s
  | _, _ => s

/-! ### Survey and park phases (R168 to R172) -/

/-- UNSEAT of a SURVEY; a known model is withdrawn first (R167, R168). -/
def State.beginSurvey (s : State) : State :=
  let s := if s.kelly.known then s.withdrawModel.changeMode .surveyRequired else s
  let s := (s.toPhase .unseat).onStroke fun t =>
    { t with unseatOrigin := s.kelly.angle, unseatConfirm := s.profile.confirmTorque, unseatWatch := some 30000 }
  let s := (s.onLimits fun m => { m with unseatPhase := true }).trigger .unseat
  s.ask .brake .brake (.creep false)

/-- RAISE of a SURVEY (R169): the hoist in SPEED, its request zero from the start with the top stop ON. -/
def State.beginRaise (s : State) : State :=
  let top := s.axes.topState = some true
  let s := (s.toPhase .raise).onStroke fun t => { t with raiseStopping := top }
  s.ask (.speed (if top then 0 else -(fig s.profile.machine.winchMax * fine / 5))) .brake .brake

/-- A new accumulator and debt; a change of the debt is handed on. -/
def State.setDebt (acc debt : Int) (s : State) : State :=
  let was := s.kelly.debt
  let s := s.onKelly fun m => { m with accumulator := acc, debt := debt }
  if debt = was then s
  else
    let s := (s.setFlagsAll flagDatumDebt).trigger .debt
    let s := if 2 ≤ debt then s.onStroke fun t => { t with figures := { t.figures with depthUncertain := true } } else s
    if debt = 4 then s.raise .datumOverdue else s

/-! ### NEST (R170) -/

/-- The four checks of NEST. -/
def State.nests (s : State) : Bool :=
  match s.kelly.ropeDepth, s.driveDepth with
  | some r, some d =>
    decide (magnitude (r - fig s.profile.machine.rTop) ≤ 200) &&
      decide (magnitude (fig s.profile.machine.rTop + s.profile.topToTip - (d + s.profile.nestedReach)) ≤ 100)
  | _, _ => false

/-- The model becomes known: every interface nested, r at R_top (R170). -/
def State.nestModel (s : State) : State :=
  let s := s.onKelly fun m =>
    { m with
      known := true
      latch := false
      ropeDepth := some (fig s.profile.machine.rTop)
      interfaces := Vector.ofFn fun k => if k.val < s.profile.count then ⟨s.profile.place k 0, some 0⟩ else ⟨.unknown, none⟩ }
  (s.setDebt 0 0).engagementChanged

/-- NEST: the stuck watch has ended with RAISE. The model becomes known and the unit OPERATING, or SURVEY_FAILED is raised with its depth
absent (R169, R170). Out of SURVEY_REQUIRED alone does the mode change (R165; DEDUCED, log entry 38). -/
def State.nest (s : State) : State :=
  let s := (s.toPhase .nest).onStroke fun t => { t with stuckWatch := none, stuckCount := none }
  if s.nests then
    let s := (s.nestModel.onStroke fun t => t.decideOutcome .done none).closeStroke
    if s.ctl.mode = .surveyRequired then s.changeMode .operating else s
  else s.raiseAt .surveyFailed none

/-- The references a park records (R172); an angle not yet sampled is recorded as none (DESIGN CHOICE, log entry 77). -/
def State.parkRefs (s : State) : ParkRefs := ⟨s.kelly.ropeDepth, s.kelly.sled, s.kelly.angle⟩

/-- The last phase of a PARK has ended (R172). -/
def State.parkDone (s : State) : State :=
  (s.onStroke fun t => { (t.decideOutcome .done none).raiseEnd .held with parkDue := some s.parkRefs }).closeStroke

/-- The crowd setpoint stands at its request or at its bound. -/
def State.crowdSettled (s : State) : Bool := s.axes.crowd.mode = .force && s.axes.crowd.setpoint = s.goal .crowd

/-- All three channels are BRAKED. -/
def State.allBraked (s : State) : Bool :=
  s.axes.hoist.mode = .braked && s.axes.crowd.mode = .braked && s.axes.rotary.mode = .braked

/-- RELEASE_DWELL of an auto-release (R95). -/
def State.beginReleaseDwell (s : State) : State :=
  ((s.toPhase .releaseDwell).onStroke fun t => { t with releaseDwell := some 2000 }).phaseRequest .hoist (.tension leastTension)

/-- The end of RAMP_DOWN (R95, R98): an auto-release, or nothing more to run. -/
def State.endRampDown (t : Stroke) (s : State) : State :=
  let o := s.orderOf t
  if o.isLocked && o.autoRelease = some true && !t.met &&
      (t.outcome = some .target || t.outcome = some .sledEnd || t.outcome = some .mark) then
    s.boundary State.beginReleaseDwell
  else s.closeStroke

/-- The end of a turn of a SPIN (R99). -/
def State.endTurn (t : Stroke) (s : State) : State :=
  if t.phase = .turnCw then s.boundary (State.beginTurn false)
  else if t.cyclesLeft ≤ 1 then (s.onStroke fun t => t.decideOutcome .done none).closeStroke
  else s.boundary fun s => (s.onStroke fun t => { t with cyclesLeft := t.cyclesLeft - 1 }).beginTurn true

/-- What the phase of the stroke waits for at rest, at zero or braked (DEDUCED, log entry 22). -/
def State.progressPhase (s : State) : State :=
  match s.seq.stroke with
  | none => s
  | some t =>
    let rest := s.axes.rotary.atRest
    if t.closed || t.met then s
    else
      match t.phase with
      | .gear =>
        if s.axes.shift = .idle && !s.needsShift (s.orderOf t) then s.boundary State.beginAfterGear else s
      | .crowdDown => if s.axes.crowd.setpoint = 0 then s.boundary State.beginUnseating else s
      | .rampDown =>
        let o := s.orderOf t
        if o.isLocked then
          if !rest then s
          else if !t.unloading then
            (s.onStroke fun t => { t with unloading := true }).phaseRequest .crowd .brake
          else if s.axes.crowd.setpoint = 0 then s.endRampDown t
          else s
        else if o.isHanging then if rest then (s.onStroke fun t => { t with windowWatch := false }).endRampDown t else s
        else if s.axes.hoist.setpoint = 0 then s.closeStroke
        else s
      | .turnCw | .turnCcw => if t.turnStopping && rest then s.endTurn t else s
      | .unseat => if t.unseatPassed && rest then s.endUnseat.boundary State.beginRaise else s
      | .raise => if t.raiseStopping && s.axes.hoist.atRest then s.boundary State.nest else s
      | .brake => if s.allBraked then s.parkDone else s
      | .holdIn =>
        if s.crowdSettled && s.axes.hoist.mode = .braked && s.axes.rotary.mode = .braked then s.parkDone else s
      | _ => s

/-- Everything that waits on rest, on a setpoint or on a brake. -/
def State.progress (s : State) : State :=
  s.progressRotation.progressReseat.progressRelief.progressPhase.progressPhase

/-! ### Start checks (R23, R29, R69, R83, R167, R172) -/

/-- Check 1 of R69. -/
def permits (m : UnitMode) (k : Kind) : Bool :=
  match m with
  | .surveyRequired => k = .survey || k = .sled || k = .dwell
  | .operating => true
  | _ => false

/-- Check 2 of R69. -/
def State.startInhibited (o : Order) (s : State) : Bool :=
  (match o.ownDirection with
    | some d => holds s.union d
    | none => false) ||
    ((o.kind = .bore || o.kind = .spin) && holds s.union .gearShift && s.needsShift o)

/-- The reason of the first condition that holds. -/
def firstReason : List (Bool × Reason) → Option Reason
  | [] => none
  | (b, r) :: rest => if b then some r else firstReason rest

/-- The four checks of an ENGAGE (R23). -/
def State.engageReason (o : Order) (s : State) : Option Reason :=
  firstReason [(!s.kelly.known, .modelUnknown), (!s.kelly.tob, .notOnBottom), (!s.planAligned o, .notAligned),
    (!s.planOnly o, .planMismatch)]

/-- The sled window of R89. -/
def State.sledWindow (s : State) : Int × Int :=
  let full := fig s.profile.machine.sledTravel
  if s.kelly.known then
    let x := fig s.kelly.sled + s.kelly.pos 0
    (max 0 (x - s.profile.travel 0), min full x)
  else (0, full)

/-- The dry tool load check of a SURVEY (R167). -/
def State.dryOffBottom (s : State) : Bool :=
  match s.kelly.tension, s.limits.dry.total with
  | some t, some w => decide (10 * (w - t) < w)
  | _, _ => true

/-- The kind's own checks (R23, R29, R83, R167, R172). A W_total not yet formed counts as 0.0 (DESIGN CHOICE, log entry 47). -/
def State.ownReason (o : Order) (s : State) : Option Reason :=
  let unknown : Bool × Reason := (!s.kelly.known, .modelUnknown)
  let notReleased : Bool × Reason := (!s.allReleased, .chain)
  let any (f : IfState → Bool) : Bool := s.profile.members.any fun k => f (s.kelly.st k)
  match o.kind with
  | .descend => firstReason [unknown, notReleased]
  | .hoist => firstReason [unknown, notReleased, (decide (s.limits.set.hoistLine < fig s.limits.set.wTotal), .overweight)]
  | .sled =>
    let x := s.kelly.st 0
    firstReason [(s.driveDepth.isNone, .modelUnknown), (x.isEngaged || x.isSeating || x.isUnseating, .chain)]
  | .engage => s.engageReason o
  | .release => firstReason [unknown, (!s.kelly.tob, .notOnBottom), (!any IfState.isEngaged, .chain)]
  | .bore =>
    if o.isHanging then firstReason [unknown, (s.firstEngaged || any IfState.isAligned, .chain)]
    else firstReason [unknown, (!s.chainEngaged, .chain)]
  | .spin => firstReason [unknown, notReleased, (decide (-500 < fig s.toolDepth), .clearance)]
  | .survey => firstReason [(s.dryOffBottom, .notOnBottom)]
  | .park =>
    if o.parkKind = some .latch then firstReason [unknown, (!s.chainEngaged, .chain), (!s.kelly.tob, .notOnBottom)]
    else firstReason [unknown, notReleased,
      (!(s.axes.topState = some true) || decide (0 < s.sledWindow.1) || decide (s.sledWindow.2 < 0), .park)]
  | .none => none
  | .dwell => none

/-- The start checks, the ENGAGE that waits on the release settle time excepted (R69). -/
def State.startReason (o : Order) (s : State) : Option Reason :=
  if !permits s.ctl.mode o.kind then some .mode
  else if s.startInhibited o then some .inhibited
  else if o.kind = .engage && s.kelly.releaseSettle.isSome then none
  else s.ownReason o

/-! ### Working values (R82, R89, R97) -/

/-- The walk of the advance allowance (R97). -/
def allowanceWalk (p : Profile) (m : Kelly) : List (Fin 5) → Int → Int
  | [], e => e
  | k :: ks, e =>
    if (m.st k).isReleased then
      let x := m.pos k
      match (p.stations k).find? fun j => decide (x < j.2 - 40) with
      | some j =>
        if j.2 - 40 ≤ p.travel k then e + (j.2 - 40 - x) - 100 else allowanceWalk p m ks (e + (p.travel k - x))
      | none => allowanceWalk p m ks (e + (p.travel k - x))
    else allowanceWalk p m ks e

/-- The advance allowance of a HANGING BORE (R97). -/
def State.allowance (s : State) : Int := max 0 (allowanceWalk s.profile s.kelly s.profile.members 0)

/-- The bound of a BORE's advance (R82). -/
def State.advanceBound (o : Order) (s : State) : Int :=
  if o.isHanging then s.allowance else fig s.profile.machine.sledTravel - fig s.kelly.sled

/-- The working values (R82). -/
def State.workingValues (o : Order) (s : State) (t : Stroke) : Stroke :=
  let winch := min (fig o.winchSpeed) (fig s.profile.machine.winchMax)
  let rotary := min (fig o.rotarySpeed) (s.profile.rotaryMax (o.gear.getD .low))
  let sled := clampTo s.sledWindow.1 s.sledWindow.2 (fig o.sledTarget)
  let advance := min (fig o.advance) (s.advanceBound o)
  let clamped :=
    match o.kind with
    | .descend => winch != fig o.winchSpeed
    | .hoist => winch != fig o.winchSpeed
    | .sled => sled != fig o.sledTarget
    | .bore => rotary != fig o.rotarySpeed || advance != fig o.advance
    | .spin => rotary != fig o.rotarySpeed
    | _ => false
  { t with
    winchSpeed := winch, rotarySpeed := rotary, sledTarget := sled, advance := advance
    advanceClamped := advance != fig o.advance
    cyclesLeft := (fig o.cycles).toNat
    figures := { t.figures with clamped := clamped } }

/-! ### Beginning a stroke (R84 to R101) -/

/-- The hoist request of a HOIST: 6.0 m/min at most in the approach zone (R87). -/
def State.hoistSpeed (t : Stroke) (s : State) : Int :=
  let near :=
    match s.kelly.ropeDepth with
    | some r => decide (r - fig s.profile.machine.rTop ≤ 1000)
    | none => false
  if near then -(min t.winchSpeed 60 * fine) else -(t.winchSpeed * fine)

/-- The sled stands within 5 mm of a target. -/
def State.sledAt (target : Int) (s : State) : Bool :=
  match s.kelly.sled with
  | some x => decide (magnitude (target - x) ≤ 5)
  | none => false

/-- The ending a first motion phase already meets (R84). -/
def State.alreadyEnded (o : Order) (t : Stroke) (s : State) : Option Outcome :=
  match o.kind with
  | .descend =>
    if s.kelly.tob then some .bottom else if fig o.targetDepth ≤ fig s.toolDepth then some .target else none
  | .hoist =>
    if s.axes.topState = some true then some .top
    else if !(o.toTop = some true) && fig s.toolDepth ≤ fig o.targetDepth then some .target
    else none
  | .sled => if s.sledAt t.sledTarget then some .target else none
  | .bore => if t.advance = 0 then some (if o.isHanging then .target else .sledEnd) else none
  | _ => none

/-- A stroke whose motion has already ended: its closing phases run with no axis set in motion (R84). -/
def State.beginEnded (o : Order) (r : Outcome) (s : State) : State :=
  let s := s.onStroke fun t => t.decideOutcome r none
  if o.kind = .sled then (s.toPhase .move).closeStroke
  else ((s.toPhase .rampDown).onStroke fun t => { t with unloading := true }).ask .brake .brake .brake

/-- The first phase of a stroke whose checks have passed. -/
def State.beginPhases (o : Order) (t : Stroke) (s : State) : State :=
  match o.kind with
  | .descend => (s.toPhase .run).ask (.speed (t.winchSpeed * fine)) .brake .brake
  | .hoist => (s.toPhase .run).ask (.speed (s.hoistSpeed t)) .brake .brake
  | .sled =>
    ((s.toPhase .move).onStroke (Stroke.startSledWatch s.kelly.sled)).ask .brake (.position t.sledTarget (fig o.sledSpeed)) .brake
  | .engage =>
    if s.kelly.releaseSettle.isSome then (s.toPhase .settleWait).ask .brake .brake .brake else s.beginSeating
  | .release => (s.toPhase .crowdDown).ask (.tension leastTension) .brake .brake
  | .bore => if s.needsShift o then s.beginGear o else s.beginRampUp
  | .spin => if s.needsShift o then s.beginGear o else s.beginSpin
  | .survey => s.beginSurvey
  | .park =>
    if o.parkKind = some .latch then
      let s : State := { s with ctl := { s.ctl with latchRequest := true } }
      (s.toPhase .holdIn).ask .brake (.force s.profile.holdIn) .brake
    else ((s.toPhase .sledUp).onStroke (Stroke.startSledWatch s.kelly.sled)).ask .brake (.position 0 200) .brake
  | .dwell => ((s.toPhase .wait).onStroke fun t => { t with dwell := some ((fig o.dwell).toNat * 100) }).ask .brake .brake .brake
  | _ => s

/-- A stroke record at its taking (R64). -/
def Figures.fresh (depth : Option Int) (uncertain : Bool) : Figures :=
  ⟨depth, none, 0, 0, 0, 0, 0, 0, 0, false, uncertain, false, false⟩

/-- A stroke at its taking (R67, R68). -/
def Stroke.fresh (index : Fin 32) (depth : Option Int) (uncertain : Bool) : Stroke where
  index := index
  phase := .run
  outcome := none
  reason := none
  endState := .running
  inhibited := false
  closed := false
  met := false
  figures := Figures.fresh depth uncertain
  winchSpeed := 0
  sledTarget := 0
  advance := 0
  advanceClamped := false
  rotarySpeed := 0
  origin := none
  unloading := false
  turnOrigin := none
  turnStopping := false
  cyclesLeft := 0
  rotationLimit := none
  sledWatch := none
  sledRef := 0
  dwell := none
  releaseDwell := none
  unseatOrigin := none
  unseatConfirm := 0
  unseatPassed := false
  unseatWatch := none
  raiseStopping := false
  stuckWatch := none
  stuckCount := none
  windowWatch := false
  parkDue := none

/-! ### Completion (R69, R70) -/

/-- The crowd request of a lapsed LATCH park is stopped (R172), at the lapse and by a normal stop (DESIGN CHOICE, log entry 55). -/
def State.lapse (s : State) : State :=
  if s.ctl.latchRequest then
    ({ s with ctl := { s.ctl with latchRequest := false } } : State).normalStopOn .crowd
  else s

/-- The end of a PARK: PARKED while the outcome is DONE, else the park lapses (R172). The crowd request of a LATCH park that a reaction has
zeroed before this event is not given here (DESIGN CHOICE, log entry 61). -/
def State.settlePark (o : Order) (t : Stroke) (s : State) : State :=
  if o.kind = .park then
    match t.parkDue with
    | some refs =>
      if t.outcome = some .done && s.ctl.mode = .operating then
        let s := s.changeMode .parked
        { s with ctl := { s.ctl with park := some ⟨o.parkKind.getD .stow, refs⟩ } }
      else s.lapse
    | none => s.lapse
  else s

/-- Steps 1 to 4 of R70, and what ends with the stroke: a shift not begun (R134), the downforce request (R118), a SURVEY's UNSEAT
phase (R168), a park (R172), an UNSEAT_FAILED that waited for the end (R34). -/
def State.writeBack (endDepth : Option Int) (t : Stroke) (s : State) : State :=
  let o := s.orderOf t
  let c : Completion := ⟨t.outcome.getD .aborted, t.reason, some { t.figures with endDepth := endDepth }⟩
  let s : State := { s with
    ring := s.ring.set t.index ⟨.console, o, some c⟩
    seq := { s.seq with next := t.index + 1, stroke := none } }
  let s := (s.setFlagsAll flagStrokeDone).stopStanding
  let s := ((s.onAxes Axes.withdrawShift).withdrawDownforce.endUnseat.endBoreWatches).settlePark o t
  if s.kelly.unseatFailedDue then (s.raise .unseatFailed).onKelly fun m => { m with unseatFailedDue := false } else s

/-- The sequencer state of an end state. -/
def EndState.seqState : EndState → SeqState
  | .running => .running
  | .held => .held
  | .stopped => .stopped
  | .faulted => .faulted

/-- A stroke refused at its start completes at once, its end depth its start depth (R69). -/
def State.refuseStart (r : Reason) (s : State) : State :=
  match s.seq.stroke with
  | none => s
  | some t =>
    let t := (t.decideOutcome .refused (some r)).raiseEnd .held
    (s.writeBack t.figures.startDepth t).setSeqState t.endState.seqState

/-- The checks have passed: working values, the ending already met, the first phase (R82, R84). -/
def State.beginStroke (o : Order) (s : State) : State :=
  let s := s.onStroke (s.workingValues o)
  match s.seq.stroke with
  | none => s
  | some t =>
    (match s.alreadyEnded o t with
      | some r => s.beginEnded o r
      | none => s.beginPhases o t).progress

/-- What still waits at the sequencer concerns no stroke taken later: the start checks read all of it as it stands (DEDUCED, log entry 16). -/
def Mail.forNewStroke (m : Mail) : Mail :=
  { m with depthSeq := [], tobSeq := [], limitSeq := [], unionSeq := [], modeSeq := [] }

/-- The sequencer takes the next entry (R68, R69). -/
def State.takeEntry (s : State) : State :=
  let e := s.ring[s.seq.next]
  if e.owner = .console then s.setSeqState .suspended
  else
    let t := Stroke.fresh s.seq.next s.toolDepth (decide (2 ≤ s.kelly.debt))
    let s : State := { s with
      seq := { s.seq with stroke := some t }
      axes := { s.axes with slackLatch := false, overpullLatch := false }
      mail := s.mail.forNewStroke }
    match s.startReason e.order with
    | some r => s.refuseStart r
    | none => s.beginStroke e.order

/-- The stroke in flight completes (R70). -/
def State.complete (s : State) : State :=
  match s.seq.stroke with
  | none => s
  | some t =>
    let t := if t.inhibited then t.raiseEnd .held else t
    let s := s.writeBack s.toolDepth t
    if t.endState = .running then s.takeEntry else s.setSeqState t.endState.seqState

/-- The waiting ENGAGE makes its start checks (R23). A failed check refuses an inhibited stroke with its own reason, before the boundary
(DESIGN CHOICE, log entry 40). -/
def State.endSettleWait (s : State) : State :=
  match s.seq.stroke with
  | some t =>
    if t.phase = .settleWait && !t.closed && !t.met then
      let o := s.orderOf t
      match s.engageReason o with
      | some r => s.refuseStart r
      | none => s.boundary fun s => s.beginSeating.progress
    else s
  | none => s

/-- The stroke can complete: its outcome decided, no phase left, every axis at rest (R70). -/
def State.completes (s : State) : Bool :=
  match s.seq.stroke with
  | some t => t.outcome.isSome && t.closed && s.allAtRest
  | none => false

end Sys2Proof.Machine
end

