-- ==== Sys2Proof/Machine/Samples.lean ====
section
/-! DEFINITION. What the samples do: supervision of the inputs (R41), the depth record and its tests (R47 to R55), spring-back (R36),
the stroke's endings by sled, angle and depth, and the watches of the channels (R86, R88, R135, R169). -/
namespace Sys2Proof.Machine

/-! ### Supervision (R41) -/

/-- A group has an input in fault. -/
def State.groupInFault (v : FaultVector) (s : State) : Bool := allInputs.any fun i => groupVector i = v && s.sup.inFault i

/-- Set an input's timer and fault mark; its group's vector is raised when the group goes from no input in fault to one. -/
def State.markInput (i : SensorInput) (timer : Timer) (fault : Bool) (s : State) : State :=
  let before := s.groupInFault (groupVector i)
  let s : State := { s with sup := { s.sup with inputs := s.sup.inputs.set (inputIndex i) ⟨timer, fault⟩ } }
  if !before && s.groupInFault (groupVector i) then s.raise (groupVector i) else s

/-- An input put in fault, and the channels after it. -/
def State.setInput (i : SensorInput) (timer : Timer) (fault : Bool) (s : State) : State := (s.markInput i timer fault).settle

/-- A sample arrives at its input: the timer restarts; out of range it is discarded, otherwise its consumers take it. In CONFIG
ranges are not checked. The channels are settled once the axis has been judged by the sample, so that a brake timer runs on through the end
of a motion input's fault (R127, R131). -/
def State.sampled (i : SensorInput) (valid : Bool) (take : State → State) (s : State) : State :=
  if s.sup.active then
    if valid then (take (s.markInput i (some 50) false)).settle.progress else (s.setInput i (some 50) true).progress
  else (take (s.markInput i (some 50) false)).settle.progress

/-- A sled sample's range can be judged only while the profile is COMMITTED. -/
def State.sledValid (x : Int) (s : State) : Bool :=
  !s.profile.committed || (decide (0 ≤ x) && decide (x ≤ fig s.profile.machine.sledTravel))

/-! ### Accumulator and debt (R54, R55) -/

/-- The rope run of a sample feeds the accumulator. -/
def State.accumulate (delta : Int) (s : State) : State :=
  let sum := s.kelly.accumulator + magnitude delta
  s.setDebt (sum % 12000) (min 4 (s.kelly.debt + sum / 12000))

/-! ### Placement and its tests (R28, R37, R47 to R50, R97) -/

/-- Place the unplaced length over the released interfaces; nothing while the chain is fully engaged (R48, R52). -/
def State.placeUnplaced (s : State) : State :=
  match s.unplaced with
  | some u => if s.chainEngaged then s else s.onKelly fun m => m.share s.profile s.profile.members u
  | none => s

/-- The sled's motion shared over the kelly (R50). -/
def State.shareSled (delta : Int) (s : State) : State :=
  let m := s.engagedRun
  if s.chainEngaged then s
  else
    match fin? 5 m with
    | none => s
    | some k =>
      if (s.kelly.st k).isReleased then
        let want := s.kelly.pos k - delta
        let got := clampTo 0 (s.profile.travel k) want
        s.onKelly fun y => (y.setPos k got).share s.profile (s.profile.members.filter fun i => i != k) (want - got)
      else s.onKelly fun y => y.share s.profile s.profile.members (-delta)

/-- The rotary turns clockwise. -/
def State.turningCw (s : State) : Bool := !s.axes.rotary.atRest && decide (0 < s.kelly.speed.getD 0)

/-- The watch of R28 is kept: a seating attempt turns clockwise. -/
def State.seatWatch (s : State) : Bool :=
  match s.kelly.rotation with
  | some r => r.sense = .seating && r.stage = .turning
  | none => false

/-- The watch of R97 is kept and would act: a HANGING BORE from RAMP_UP to rest in RAMP_DOWN, on the bottom, turning clockwise. A stroke
that runs no RAMP_DOWN keeps it to its completion (DESIGN CHOICE, log entry 44). -/
def State.hangingWatch (s : State) : Bool :=
  match s.seq.stroke with
  | some t =>
    t.windowWatch && s.kelly.tob && s.turningCw
  | none => false

/-- An interface has come into a capture window, or into another, by a change of position. -/
def newlyAligned (old now : Kelly) : Bool :=
  (List.finRange 5).any fun k => (now.st k).isAligned && (old.st k).isReleased && now.st k != old.st k

/-- The chain-consistency check of R37. -/
def State.inconsistent (s : State) : Bool :=
  match s.unplaced with
  | some u => s.chainEngaged && decide (100 < magnitude u)
  | none => false

/-- The discrepancy test of R49. -/
def State.testDiscrepancy (s : State) : State :=
  match s.unplaced with
  | some u =>
    if s.chainEngaged then s
    else if 100 < magnitude u then
      if s.kelly.latch then s else (s.raise .datumDiscrepancy).onKelly fun m => { m with latch := true }
    else s.onKelly fun m => { m with latch := false }
  | none => s

/-- What follows a change of the depth record: the change of D is handed on, the change of engagement too, and the tests of R49,
R37, R28 and R97 are made, the test of R49 before the watches of R28 and R97 (DESIGN CHOICE, log entry 79). -/
def State.afterMove (old : Kelly) (oldDepth : Option Int) (s : State) : State :=
  let watched := s.seatWatch || s.hangingWatch
  let s := ((s.handOnDepth oldDepth).noteEngagement old).testDiscrepancy
  if s.kelly.known && (s.inconsistent || (watched && newlyAligned old s.kelly)) then s.chainLost else s

/-! ### Endings by depth and by the sled (R85, R87, R90, R95, R98) -/

/-- The advance reached by a depth. -/
def Stroke.advanced (t : Stroke) (depth : Int) : Bool :=
  match t.origin with
  | some o => decide (t.advance ≤ depth - o)
  | none => false

/-- The outcome of an advance reached: a clamped LOCKED advance is a SLED_END (R95). -/
def Stroke.advanceOutcome (o : Order) (t : Stroke) : Outcome :=
  if o.isLocked && t.advanceClamped then .sledEnd else .target

/-- A change of D tested against the stroke's target or advance. -/
def State.testDepth (depth : Int) (s : State) : State :=
  match s.moving with
  | none => s
  | some t =>
    let o := s.orderOf t
    let reached :=
      match o.kind with
      | .descend => decide (fig o.targetDepth ≤ depth)
      | .hoist => !(o.toTop = some true) && decide (depth ≤ fig o.targetDepth)
      | .bore => t.boring && t.advanced depth
      | _ => false
    if reached then (s.endMotion (if o.kind = .bore then t.advanceOutcome o else .target) none).progress else s

/-- A LOCKED BORE with the sled at the end of its travel: SLED_END, or TARGET where the same sample brings an unclamped advance
(R95). -/
def State.testSledEnd (sled : Int) (s : State) : State :=
  match s.moving with
  | none => s
  | some t =>
    let o := s.orderOf t
    if o.isLocked && t.boring && decide (fig s.profile.machine.sledTravel ≤ sled) then
      let target :=
        match s.toolDepth with
        | some d => !t.advanceClamped && t.advanced d
        | none => false
      s.endMotion (if target then .target else .sledEnd) none
    else s

/-- The sled watch restarts when a sample brings the sled 5 mm nearer its target than the reference (R90). -/
def Stroke.nearer (target sled : Int) (t : Stroke) : Stroke :=
  if t.sledWatch.isSome && 5 ≤ magnitude (target - t.sledRef) - magnitude (target - sled) then
    { t with sledWatch := some 10000, sledRef := sled }
  else t

/-- A sled sample at a SLED or a STOW park (R90, R172). -/
def State.sledAtStroke (sled : Int) (s : State) : State :=
  match s.seq.stroke with
  | none => s
  | some t =>
    if t.closed || t.met || t.outcome.isSome then s
    else if t.phase = .move then
      if magnitude (t.sledTarget - sled) ≤ 5 then s.endMotion .target none
      else s.onStroke (Stroke.nearer t.sledTarget sled)
    else if t.phase = .sledUp then
      if magnitude sled ≤ 5 then
        (s.onStroke fun t => { t with sledWatch := none }).boundary fun s => (s.toPhase .brake).ask .brake .brake .brake
      else s.onStroke (Stroke.nearer 0 sled)
    else s

/-! ### Rope samples (R45, R48, R54) -/

/-- The kelly model takes a rope motion. -/
def State.moveRope (delta : Int) (s : State) : State :=
  let old := s.kelly
  let d := s.toolDepth
  let s := (s.onKelly fun m => { m with ropeDepth := m.ropeDepth.map fun r => r + delta }).accumulate delta
  if s.kelly.known then s.placeUnplaced.afterMove old d else s

/-- The hoist channel judges its axis by the rope rate (R127). -/
def State.judgeHoist (delta : Int) (s : State) : State :=
  s.onAxes fun a => { a with hoist := { a.hoist with atRest := slow delta a.sinceRope } }

/-- The top-stop watch at a payout count (R88). -/
def State.watchTopStop (count : Int) (s : State) : State :=
  if s.ctl.mode = .config || s.axes.topState != some true then s
  else
    match s.axes.topCount with
    | none => s.onAxes fun a => { a with topCount := some count }
    | some c =>
      if count < c - 100 && !s.axes.topLatch then (s.raise .topStop).onAxes fun a => { a with topLatch := true } else s

/-- The hoist request of a HOIST follows the approach zone (R87). -/
def State.followZone (s : State) : State :=
  match s.moving with
  | some t => if (s.orderOf t).kind = .hoist then s.phaseRequest .hoist (.speed (s.hoistSpeed t)) else s
  | none => s

/-- A rope sample far from the recorded count stops the stuck watch (R169). -/
def Stroke.unstick (count : Int) (t : Stroke) : Stroke :=
  match t.stuckCount with
  | some c => if 50 ≤ magnitude (count - c) then { t with stuckWatch := none, stuckCount := none } else t
  | none => t

/-- A tension sample at the stuck watch of RAISE (R169), kept while no ABORT and no reaction has met the stroke (DESIGN CHOICE, log entry 58).
Before any payout sample there is no count to record, and no rope sample stops the timer (DESIGN CHOICE, log entry 66). -/
def State.watchStuck (tension : Int) (s : State) : State :=
  match s.seq.stroke with
  | some t =>
    if t.phase = .raise && !t.closed && !t.met then
      if 6 * fig s.limits.dry.total < 5 * tension then
        if t.stuckWatch.isSome then s
        else s.onStroke fun t => { t with stuckWatch := some 2000, stuckCount := s.kelly.ropeBaseline }
      else s.onStroke fun t => { t with stuckWatch := none, stuckCount := none }
    else s
  | none => s

/-- A rope payout sample in range (R40, R48, R88, R127, R169, R173). The kelly model takes it before the top-stop watch, so that a TOP_STOP
carries D as the sample leaves it (DESIGN CHOICE, log entry 68). -/
def State.takeRope (count : Int) (s : State) : State :=
  match s.kelly.ropeBaseline with
  | none => ((s.onKelly fun m => { m with ropeBaseline := some count }).onAxes fun a => { a with sinceRope := 0 }).watchTopStop count
  | some b =>
    let delta := count - b
    let s := ((s.onKelly fun m => { m with ropeBaseline := some count }).judgeHoist delta).moveRope delta
    let s := (s.onAxes fun a => { a with sinceRope := 0 }).watchTopStop count
    (s.onStroke (Stroke.unstick count)).followZone.watchParkRope

/-! ### Datum passes (R52, R53) -/

/-- A datum pass with the model known corrects the rope depth (R52). On a fully engaged chain CHAIN_LOST follows the test of R37 alone (DEDUCED,
log entry 42). -/
def State.correctRope (s : State) : State :=
  let old := s.kelly
  let d := s.toolDepth
  let datum := fig s.profile.machine.rDatum
  let c := datum - fig s.kelly.ropeDepth
  let s := if 150 < magnitude c then s.raise .datumDiscrepancy else s
  let s := (s.onKelly fun m => { m with ropeDepth := some datum }).placeUnplaced
  let u := s.unplaced.getD 0
  let s := if 150 < magnitude c && !s.chainEngaged && 100 < magnitude u then s.onKelly fun m => { m with latch := true } else s
  ((s.setDebt 0 0).afterMove old d).followZone.watchParkRope

/-- A datum pass with the model UNKNOWN fixes an absent rope depth, while the profile is COMMITTED. -/
def State.fixRope (s : State) : State :=
  (s.onKelly fun m =>
    if s.profile.committed && m.ropeDepth.isNone then { m with ropeDepth := some (fig s.profile.machine.rDatum) } else m).setDebt 0 0

/-- A datum sensor sample: a change from OFF to ON is a pass (R44). -/
def State.takeDatum (on : Bool) (s : State) : State :=
  let pass := on && s.kelly.datumState = some false
  let s := s.onKelly fun m => { m with datumState := some on }
  if pass then if s.kelly.known then s.correctRope else s.fixRope else s

/-! ### Top stop, sled, angle -/

/-- A change of the top-stop sensor at the stroke: TOP of a HOIST, the stop of RAISE (R87, R169). -/
def State.topAtStroke (s : State) : State :=
  match s.seq.stroke with
  | some t =>
    if t.inMotion && (s.orderOf t).kind = .hoist then s.endMotion .top none
    else if t.phase = .raise && !t.closed && !t.met then
      (s.onStroke fun t => { t with raiseStopping := true }).phaseRequest .hoist .brake
    else s
  | none => s

/-- A top-stop sample (R44, R88). A change to ON before any payout sample records no count, and the first payout sample supplies it (DESIGN
CHOICE, log entry 65). -/
def State.takeTopStop (on : Bool) (s : State) : State :=
  let was := s.axes.topState
  let s := s.onAxes fun a => { a with topState := some on }
  if was = some (!on) then
    if on then (s.onAxes fun a => { a with topCount := s.kelly.ropeBaseline, topLatch := false }).topAtStroke
    else s.onAxes fun a => { a with topCount := none, topLatch := false }
  else s

/-- The crowd channel judges its axis by the sled rate (R127). -/
def State.judgeCrowd (delta : Int) (s : State) : State :=
  s.onAxes fun a => { a with crowd := { a.crowd with atRest := slow delta a.sinceSled } }

/-- A sled sample in range (R40, R50, R90, R95, R122, R173). -/
def State.takeSled (x : Int) (s : State) : State :=
  let old := s.kelly
  let d := s.toolDepth
  let moved := s.onKelly fun m => { m with sled := some x }
  let s :=
    match s.kelly.sled with
    | none => moved
    | some b =>
      let judged := moved.judgeCrowd (x - b)
      if s.kelly.known then (judged.shareSled (x - b)).afterMove old d else judged
  ((((s.onAxes fun a => { a with sinceSled := 0 }).formPosition x).testSledEnd x).sledAtStroke x).watchParkSled

/-- Spring-back (R36): outside rotations, anticlockwise motion under restraint accumulates (DEDUCED, log entry 19). -/
def State.springBack (delta : Int) (s : State) : State :=
  if s.kelly.rotation.isSome then s
  else if 0 < delta then s.onKelly fun m => { m with springBack := 0 }
  else if delta < 0 && (s.profile.members.any fun k => (s.kelly.st k).isEngaged) && s.kelly.tob &&
      (match s.kelly.crowdForce with
        | some f => decide (f < s.profile.holdIn)
        | none => false) then
    let s := s.onKelly fun m => { m with springBack := m.springBack - delta }
    if s.profile.seat - s.profile.tol ≤ s.kelly.springBack then s.chainLost else s
  else s

/-- A turn of a SPIN has run 180.0° (R99). -/
def State.angleAtTurn (t : Stroke) (s : State) : State :=
  let a := turnedCw t.turnOrigin s.kelly.angle
  let turned := if t.phase = .turnCw then a else -a
  if !t.turnStopping && 1800 ≤ turned then
    (s.onStroke fun t => { t with turnStopping := true }).phaseRequest .rotary .brake
  else s

/-- The UNSEAT creep of a SURVEY has passed the window (R168). An angle past it after the unseat watch has expired leaves the stroke in UNSEAT
(DESIGN CHOICE, log entry 70). -/
def State.angleAtUnseat (t : Stroke) (s : State) : State :=
  if !t.unseatPassed && t.unseatWatch.isSome && s.profile.seat + s.profile.tol < -(turnedCw t.unseatOrigin s.kelly.angle) then
    (s.onStroke fun t => { t with unseatPassed := true, unseatWatch := none }).phaseRequest .rotary .brake
  else s

/-- The relief angle is turned (R135): half the seat angle in a LOCKED BORE, 90.0° in a HANGING BORE. -/
def State.angleAtRelief (o : Order) (s : State) : State :=
  match s.axes.relief with
  | some r =>
    let turned := -(turnedCw r.origin s.kelly.angle)
    if r.stage = .turning && (if o.isLocked then decide (s.profile.seat ≤ 2 * turned) else decide (900 ≤ turned)) then
      (s.onAxes fun a => { a with relief := some ⟨.unwinding, r.origin⟩ }).phaseRequest .rotary .brake
    else s
  | none => s

/-- An angle sample at the stroke. -/
def State.angleAtStroke (s : State) : State :=
  match s.seq.stroke with
  | some t =>
    if t.closed || t.met then s
    else if t.phase = .turnCw || t.phase = .turnCcw then s.angleAtTurn t
    else if t.phase = .unseat then s.angleAtUnseat t
    else s.angleAtRelief (s.orderOf t)
  | none => s

/-- The re-seat check fails: its creep is stopped (R175). -/
def State.failReseat (v : FaultVector) (s : State) : State := (s.phaseRequest .rotary .brake).reseatFailed v

/-- The latest angle lies beyond the re-seat tolerance of the reference (R175); never beyond an absent one (DESIGN CHOICE, log entry 77). -/
def State.pastReseat (s : State) : Bool :=
  match s.ctl.park.bind (·.refs.angle), s.kelly.angle with
  | some r, some a => decide (r + s.profile.tol < a)
  | _, _ => false

/-- An angle sample at the re-seat check (R175). -/
def State.angleAtReseat (s : State) : State :=
  match s.ctl.reseat with
  | .checking _ false false => if s.pastReseat then s.failReseat .seatAttempts else s
  | _ => s

/-- A start angle that no sample had supplied takes the first one (DESIGN CHOICE, log entry 76). -/
def State.fillOrigins (a : Int) (s : State) : State :=
  let s := s.onRotation fun r => { r with origin := r.origin.or (some a) }
  s.onStroke fun t => { t with
    turnOrigin := if t.phase = .turnCw || t.phase = .turnCcw then t.turnOrigin.or (some a) else t.turnOrigin
    unseatOrigin := if t.phase = .unseat then t.unseatOrigin.or (some a) else t.unseatOrigin }

/-- A rotary angle sample (R36, R40). -/
def State.takeAngle (x : Int) (s : State) : State :=
  let was := s.kelly.angle
  let s := (s.onKelly fun m => { m with angle := some x }).fillOrigins x
  let s :=
    match was with
    | some b => s.springBack (x - b)
    | none => s
  s.rotationAngle.angleAtStroke.angleAtReseat.watchParkAngle

/-! ### Stalls (R135) -/

/-- The stall watch is kept: a boring stroke, the rotary setpoint clockwise, no relief turn. -/
def State.stallWatched (s : State) : Bool :=
  s.axes.relief.isNone && decide (0 < s.axes.rotary.setpoint) &&
    (match s.seq.stroke with
      | some t => t.boring
      | none => false)

/-- The stall condition: measured torque at 95 % of the torque limit, speed below 1.0 rpm. -/
def State.stalled (s : State) : Bool :=
  s.stallWatched &&
    (match s.kelly.torque, s.kelly.speed with
      | some q, some v => decide (95 * s.axes.limits.torque ≤ 100 * magnitude q) && decide (magnitude v < 10)
      | _, _ => false)

/-- The stall timer starts when the condition becomes true and stops when it becomes false. -/
def State.testStall (s : State) : State :=
  let b := s.stalled
  s.onAxes fun a => { a with stallTimer := if b then some (a.stallTimer.getD 1500) else none }

/-! ### Pressures, tension, speed, gear -/

/-- A peak is raised while a stroke is in flight (R64). -/
def State.peak (f : Figures → Figures) (s : State) : State := s.onStroke fun t => { t with figures := f t.figures }

/-- The measured torque (R42). -/
def State.formTorque (s : State) : Option Int :=
  match s.kelly.pressA, s.kelly.pressB, s.axes.gear with
  | some a, some b, some g =>
    if s.profile.committed then some (roundMagnitude ((a - b) * s.profile.gearConst g) 100) else none
  | _, _, _ => none

/-- The crowd force (R43). -/
def State.formCrowdForce (s : State) : Option Int :=
  match s.kelly.pressCap, s.kelly.pressRod with
  | some c, some r =>
    if s.profile.committed then some (roundMagnitude (c * fig s.profile.machine.aCap - r * fig s.profile.machine.aRod) 100)
    else none
  | _, _ => none

/-- A torque rise noted by the UNSEAT phase of a SURVEY (R168), of the magnitude of the measured torque (DESIGN CHOICE, log entry 67); none
once an ABORT or a reaction has met the stroke (DESIGN CHOICE, log entry 62). -/
def State.torqueAtUnseat (s : State) : State :=
  match s.seq.stroke, s.kelly.torque with
  | some t, some q =>
    let a := -(turnedCw t.unseatOrigin s.kelly.angle)
    if t.phase = .unseat && !t.closed && t.unseatConfirm ≤ magnitude q && s.profile.seat - s.profile.tol ≤ a &&
        a ≤ s.profile.seat + s.profile.tol then
      s.peak fun f => { f with releasedAfter := true }
    else s
  | _, _ => s

/-- A torque rise at the re-seat check (R175), of the magnitude of the measured torque (DESIGN CHOICE, log entry 67). -/
def State.torqueAtReseat (s : State) : State :=
  match s.ctl.reseat, s.kelly.torque with
  | .checking c false false, some q =>
    if c ≤ magnitude q && !s.pastReseat then
      (({ s with ctl := { s.ctl with reseat := .checking c true false } } : State).phaseRequest .rotary .brake).startSeatSettle
    else s
  | _, _ => s

/-- A rotary pressure sample in range (R42, R64, R126, R135). -/
def State.takeRotaryPressure (p : RotaryPort) (x : Int) (s : State) : State :=
  let s := s.onKelly fun m =>
    match p with
    | .a => { m with pressA := some x }
    | .b => { m with pressB := some x }
  let s := s.onKelly fun m => { m with torque := s.formTorque }
  let s := s.peak fun f => { f with peakTorque := max f.peakTorque (magnitude (fig s.kelly.torque)) }
  let s := s.onAxes fun a => { a with rotary := a.rotary.testLoad s.kelly.torque }
  s.rotationTorque.torqueAtUnseat.torqueAtReseat.testStall

/-- A crowd pressure sample in range (R20, R43, R64, R126). -/
def State.takeCrowdPressure (p : CrowdPort) (x : Int) (s : State) : State :=
  let s := s.onKelly fun m =>
    match p with
    | .cap => { m with pressCap := some x }
    | .rod => { m with pressRod := some x }
  let s := s.onKelly fun m => { m with crowdForce := s.formCrowdForce }
  let f := fig s.kelly.crowdForce
  let s := s.peak fun g => { g with peakPush := max g.peakPush f, peakPull := max g.peakPull (-f) }
  (s.onAxes fun a => { a with crowd := a.crowd.testLoad s.kelly.crowdForce }).evalTob

/-- Slack rope and overpull at the hoist channel (R86, R88). -/
def State.watchTension (x : Int) (s : State) : State :=
  match s.seq.stroke with
  | some t =>
    let k := (s.orderOf t).kind
    let runs := t.phase = .run || t.phase = .rampDown
    if k = .descend && runs && x < leastTension && 0 < s.axes.hoist.setpoint && !s.kelly.tob && !s.axes.slackLatch then
      (s.raise .slackRope).onAxes fun a => { a with slackLatch := true }
    else if k = .hoist && runs && s.limits.set.hoistLine < x && !s.axes.overpullLatch then
      (s.raise .overpull).onAxes fun a => { a with overpullLatch := true }
    else s
  | none => s

/-- A rope tension sample in range, taken by the hoist channel first or by the kelly model first (R20, R64, R86)
(DESIGN CHOICE, log entry 27). -/
def State.takeTension (x : Int) (channelFirst : Bool) (s : State) : State :=
  let s := s.peak fun f => { f with peakTension := max f.peakTension x }
  let s := s.onKelly fun m => { m with tension := some x }
  (if channelFirst then (s.watchTension x).evalTob else s.evalTob.watchTension x).watchStuck x

/-- The window watch of R97 ends with the rotary at rest in RAMP_DOWN, whatever has met the stroke meanwhile. -/
def Stroke.restWatch (rest : Bool) (t : Stroke) : Stroke :=
  { t with windowWatch := t.windowWatch && !(rest && t.phase = .rampDown) }

/-- A rotary speed sample in range (R127, R135). The window watch ends with a rest this sample shows, and with one that stood before it: with
the rotary at rest it does not act (R97). -/
def State.takeSpeed (x : Int) (s : State) : State :=
  let rest := decide (magnitude x < 2)
  let s := s.onStroke (Stroke.restWatch (s.axes.rotary.atRest || rest))
  ((s.onKelly fun m => { m with speed := some x }).onAxes fun a => { a with rotary := { a.rotary with atRest := rest } }).testStall

/-- The held gear changes: the limit computer is told; an unknown gear leaves no measured torque, and so no stall condition and no stall
timer (R42, R133, R135). -/
def State.setGear (g : Option Gear) (s : State) : State :=
  if s.axes.gear = g then s
  else
    let s := (s.onAxes fun a => { a with gear := g }).trigger .gear
    (if g.isNone then (s.onKelly fun m => { m with torque := none }).testStall else s).settle

/-- The end of a shift: a queued shift follows, unless the held gear is its target (R134). -/
def Axes.endShift (a : Axes) : Axes :=
  { a with shift := .idle, valve := none, shiftTimer := none, queuedShift := none }

/-- The shift that waited for the end of another (R134). -/
def State.afterShift (queued : Option Gear) (s : State) : State :=
  match queued with
  | some g => if s.axes.gear = some g then s else s.onAxes fun a => { a with shift := .pending g }
  | none => s

/-- A gear confirm sample (R133, R134). -/
def State.takeGear (x : Option Gear) (s : State) : State :=
  match s.axes.shift with
  | .shifting g =>
    if x = some g then
      let q := s.axes.queuedShift
      ((s.onAxes Axes.endShift).setGear (some g)).afterShift q
    else s
  | _ =>
    match s.axes.gear, x with
    | some h, _ =>
      if x = some h then s
      else
        let s := s.setGear none
        if s.ctl.mode = .config then s else s.raise .gearShift
    | none, some g =>
      let s := s.setGear (some g)
      if s.axes.shift = .pending g then s.onAxes fun a => { a with shift := .idle } else s
    | none, none => s

end Sys2Proof.Machine
end

