-- ==== Sys2Proof/Machine/Reactions.lean ====
section
/-! DEFINITION. The fault controller's operations: resolving a raise (R153), entering service (R154 to R160), completing (R156),
RESTORE (R159), and what a reaction does at the sequencer (R77, R78). -/
namespace Sys2Proof.Machine

/-- A raise resolved to its vector, class and notify set (R153). -/
structure Resolved where
  vector : FaultVector
  cls : ReactionClass
  notify : NotifySet
  deriving DecidableEq, Repr

/-- The descriptor of a vector, for vectors 0 to 21. -/
def Faults.descriptor (f : Faults) (v : FaultVector) : Option Descriptor :=
  (fin? 22 (vectorList.idxOf v)).map fun k => f.descriptors[k]

/-- Resolve a raised vector (R153). -/
def Faults.resolve (f : Faults) (v : FaultVector) : Resolved :=
  match f.descriptor v with
  | some d =>
    if f.committed && vectorList.idxOf v < f.length && d.present then ⟨v, d.cls, d.notify⟩ else ⟨.reactionMissing, .halt, notifyAll⟩
  | none => ⟨.reactionMissing, .halt, notifyAll⟩

/-- The notify set of a vector in service: all links for 22 and 23 (R156). -/
def Faults.notifyOf (f : Faults) (v : FaultVector) : NotifySet :=
  match f.descriptor v with
  | some d => d.notify
  | none => notifyAll

/-- A fault taken in CUT or LOCKOUT is counted (R159, R160). -/
def Context.later (v : FaultVector) (c : Context) : Context := { c with laterCount := min 255 (c.laterCount + 1), lastLater := some v }

def State.onContext (f : Context → Context) (s : State) : State := s.onFaults fun x => { x with context := x.context.map f }

/-- The context at an entry from CLEAR (R155). -/
def State.freshContext (r : Resolved) (raised : FaultVector) (depth : Option Int) (s : State) : Context where
  serviceVector := r.vector
  serviceClass := r.cls
  firstVector := r.vector
  firstRaised := raised
  firstClass := r.cls
  secondVector := none
  secondRaised := none
  thirdVector := none
  laterCount := 0
  lastLater := none
  ringIndex := s.seq.stroke.map (·.index)
  phase := s.seq.stroke.map (·.phase)
  depth := depth
  crowdForce := s.kelly.crowdForce
  torque := s.kelly.torque
  tension := s.kelly.tension

/-- A rotation whose result is not decided is interrupted (R35). -/
def Rotation.interrupt (r : Rotation) : Rotation := { r with interrupted := r.interrupted || r.undecided }

/-- A rotation, or a re-seat check, whose result is not decided is interrupted by a reaction (R35, R175). -/
def State.interrupt (s : State) : State :=
  let s := s.onRotation Rotation.interrupt
  match s.ctl.reseat with
  | .checking c false _ => { s with ctl := { s.ctl with reseat := .checking c false true } }
  | _ => s

/-- A reaction enters service: what it hands to the channels and the sequencer, and the lines (R154). -/
def State.enterService (st : ControllerState) (o : ChannelOrder) (r : Option ReactionMsg) (s : State) : State :=
  let s := s.onFaults fun f => { f with state := st }
  let s : State := { s with mail := { s.mail with orders := s.mail.orders ++ [o], reactions := s.mail.reactions ++ r.toList } }
  s.interrupt.setLines

/-- What a class hands to the channels. -/
def ReactionClass.order : ReactionClass → ChannelOrder
  | .announce => .normalStop
  | .hold => .normalStop
  | .halt => .fastStop
  | .cut => .cut

/-- What a class hands to the sequencer. -/
def ReactionClass.message (v : FaultVector) : ReactionClass → ReactionMsg
  | .announce => .hold v
  | .hold => .hold v
  | .halt => .stop v
  | .cut => .stop v

/-- A raise in CLEAR that does not resolve to ANNOUNCE (R155). -/
def State.enterFromClear (r : Resolved) (raised : FaultVector) (depth : Option Int) (s : State) : State :=
  let c := s.freshContext r raised depth
  (s.onFaults fun f => { f with context := some c }).enterService (if r.cls = .cut then .cut else .reacting) r.cls.order
    (some (r.cls.message r.vector))

/-- COMPOUND (R157). -/
def State.enterCompound (r : Resolved) (raised : FaultVector) (s : State) : State :=
  let s := s.onContext fun c =>
    { c with serviceVector := .compound, serviceClass := .halt, secondVector := some r.vector, secondRaised := some raised }
  (s.enterService .compound .fastStop (some (.stop .compound))).setFlagsAll flagFault

/-- CUT from REACTING (R157). -/
def State.enterCut (r : Resolved) (raised : FaultVector) (s : State) : State :=
  (s.onContext fun c =>
    { c with serviceVector := r.vector, serviceClass := .cut, secondVector := some r.vector, secondRaised := some raised
             }).enterService .cut .cut (some (.stop r.vector))

/-- LOCKOUT (R160) (DEDUCED, log entry 18). -/
def State.enterLockout (raised : FaultVector) (depth : Option Int) (s : State) : State :=
  let s := s.onContext fun c => { c with thirdVector := some raised }
  let s := s.onFaults fun f => { f with lockoutRecord := f.context.map fun c => ⟨c.firstRaised, c.secondRaised, raised, depth.or c.depth⟩ }
  let s := s.enterService .lockout .cut none
  ({ s with mail := { s.mail with lockout := s.mail.lockout + 1 } } : State).setFlagsAll flagLockout

/-- A raise acts on the controller by its resolved class and the controller's state (R153, R155, R157 to R160). -/
def State.react (r : Resolved) (raised : FaultVector) (depth : Option Int) (s : State) : State :=
  let later := s.onContext (Context.later raised)
  match s.faults.state with
  | .cut => later
  | .lockout => later
  | .clear =>
    if s.ctl.mode = .config || r.cls = .announce then s else s.enterFromClear r raised depth
  | .reacting =>
    if s.ctl.mode = .config || r.cls = .announce then s
    else if r.cls = .cut then s.enterCut r raised
    else s.enterCompound r raised
  | .compound => if s.ctl.mode = .config || r.cls = .announce then s else s.enterLockout raised depth

/-- The fault controller takes a raise (R149, R153). -/
def State.takeRaise (x : Raise) (s : State) : State :=
  let r := s.faults.resolve x.vector
  let s := s.onFaults fun f => { f with lastFault := some ⟨x.vector, r.cls, x.depth⟩ }
  (s.setFlagsOn r.notify flagFault).react r x.vector x.depth

/-- A rotation that a reaction interrupted still awaits its decision, or the decision's raise is still on its way (R156). -/
def State.awaitsDecision (s : State) : Bool :=
  (match s.kelly.rotation with
    | some r => r.interrupted && r.undecided
    | none => false) || s.mail.raises.any fun x => x.decision

/-- The conditions of R156. -/
def State.reactionEnds (s : State) : Bool :=
  (s.faults.state = .reacting || s.faults.state = .compound) && s.allAtRest && s.allZero && !s.awaitsDecision

/-- The controller returns to CLEAR, with REACTION_END flags on the links of the service vector (R156, R159). -/
def State.clearController (s : State) : State :=
  let n :=
    match s.faults.context with
    | some c => s.faults.notifyOf c.serviceVector
    | none => notifyAll
  ((s.onFaults fun f => { f with state := .clear }).setFlagsOn n flagReactionEnd).setLines

/-- REACTION_COMPLETION: the end is reported to the channels (R156). -/
def State.endReaction (s : State) : State :=
  let s := s.clearController
  { s with mail := { s.mail with orders := s.mail.orders ++ [.ended] } }

/-- The channels take every order still waiting. -/
def State.takeOrders (s : State) : State :=
  let l := s.mail.orders
  l.foldl (fun s o => s.takeOrder o) { s with mail := { s.mail with orders := [] } }

/-- RESTORE taken: CLEAR, the governors FREE (R130, R159). -/
def State.restoreCut (s : State) : State := (s.takeOrders.freeGovernors).clearController

/-! ### At the sequencer (R77, R78) -/

/-- A stroke begun after its reaction had already ended at the channels moves under no stop: the sequencer gives it the normal stop of its
remaining motion (DESIGN CHOICE, log entry 36). -/
def State.stopUngoverned (s : State) : State :=
  if s.axes.governor = .free && s.mail.orders.isEmpty then s.stopStroke else s

/-- A reaction meets the sequencer (R77); a rotation the stroke has begun since the fault entered service is interrupted too (R35), from this
event on (DESIGN CHOICE, log entry 54). -/
def State.meet (m : ReactionMsg) (s : State) : State :=
  let (o, e, v) : Outcome × EndState × FaultVector :=
    match m with
    | .hold v => (.heldByFault, .held, v)
    | .stop v => (.faulted, .faulted, v)
  match s.seq.stroke with
  | some _ =>
    (s.onStroke fun t =>
      let t := (t.decideOutcome o none).raiseEnd e
      { t with reason := t.reason.or (some (.fault v)), met := true }).closeStroke.stopUngoverned.onRotation Rotation.interrupt
  | none =>
    match s.seq.state, e with
    | .suspended, .held => s.setSeqState .held
    | .suspended, _ => s.setSeqState .faulted
    | .held, .faulted => s.setSeqState .faulted
    | _, _ => s

/-- The sequencer takes a change of the unit mode (R78). -/
def State.meetMode (m : UnitMode) (s : State) : State :=
  match s.seq.stroke with
  | some t =>
    if permits m (s.orderOf t).kind then s
    else
      ((s.onStroke fun t => (t.decideOutcome .aborted (some .mode)).raiseEnd .held).interrupt).complete
  | none => s

/-! ### ABORT (R34, R75) -/

/-- ABORT replaces an outcome of the kind or of a mark (R71). A reason that a reaction has filled stays beside ABORTED (DESIGN CHOICE, log entry
64). -/
def Stroke.abortOutcome (t : Stroke) : Stroke :=
  match t.outcome with
  | some .refused => t
  | some .heldByFault => t
  | some .faulted => t
  | _ => { t with outcome := some .aborted }

/-- ABORT meets the stroke in flight: a rotation ends as R34 says, any other motion by a normal stop (R75). The hoist and the crowd of a
rotation still turning get theirs at its result (DESIGN CHOICE, log entry 59). -/
def State.abortStroke (s : State) : State :=
  let s := s.onStroke fun t => { (t.abortOutcome.raiseEnd .stopped) with met := true }
  match s.kelly.rotation with
  | some r =>
    if r.interrupted then s.closeStroke
    else
      match r.sense, r.stage with
      | .seating, .turning => (s.onRotation fun r => { r with aborted := true }).creepBack .seating
      | _, .resting => s.closeStroke.stopStroke
      | _, _ => s.onRotation fun r => { r with aborted := true }
  | none => s.closeStroke.stopStroke

/-! ### Marks (R58, R59) -/

/-- A mark is crossed by a change of D (R58). -/
def Mark.crossed (c : DepthChange) (m : Mark) : Bool :=
  m.state = .armed &&
    (match m.direction with
      | .down => decide (c.old < m.depth) && decide (m.depth ≤ c.new)
      | .up => decide (m.depth < c.old) && decide (c.new ≤ m.depth))

/-- The action of crossed marks on the stroke in flight (R59). -/
def State.markAction (hold end_ : Bool) (s : State) : State :=
  let s' := if hold then s.onStroke (Stroke.raiseEnd .held) else s
  if (hold || end_) && s'.moving.isSome then (s'.endMotion .mark none).progress else s'

/-- The mark comparator tests a change of D (R58, R59). -/
def State.testMarks (c : DepthChange) (s : State) : State :=
  let hit := s.marks.toList.filter (Mark.crossed c)
  if hit.isEmpty then s
  else
    let s : State := { s with marks := s.marks.map fun m => if m.crossed c then { m with state := .reached } else m }
    (s.setFlagsAll flagMark).markAction (hit.any fun m => m.action = .hold) (hit.any fun m => m.action = .endStroke)

/-! ### Stalls (R96) and limits (R98) at the sequencer -/

/-- A relief turn begins: the rotary request becomes zero, a LOCKED crowd rises to the hold-in force (R96, R135). -/
def State.beginRelief (t : Stroke) (s : State) : State :=
  let s := (s.phaseRequest .rotary .brake).onAxes fun a => { a with relief := some ⟨.stopping, none⟩, stallTimer := none }
  (if (s.orderOf t).isLocked then s.phaseRequest .crowd (.force (s.lockedCrowd t s.limits.set.push)) else s).progress

/-- The sequencer takes the report of a stall (R96). -/
def State.takeStall (s : State) : State :=
  match s.moving with
  | none => s
  | some t =>
    if s.limits.set.torque = 0 then s.testStall
    else
      let s := s.onStroke fun t => { t with figures := { t.figures with stallCount := t.figures.stallCount + 1 } }
      if t.figures.stallCount + 1 < 3 then s.beginRelief t
      else
        ((s.raise .boreStall).onStroke (Stroke.raiseEnd .faulted)).endMotion .faulted (some (.fault .boreStall)) |>.progress

/-- The sequencer takes a new limit set: DOWNFORCE_SHORT, and a LOCKED crowd request that follows the push limit (R98, R106). -/
def State.takeLimitSeq (w : LimitSet) (s : State) : State :=
  let s := s.testShort w
  match s.seq.stroke with
  | some t =>
    if (s.orderOf t).isLocked && !t.closed && !t.met &&
        (t.phase = .rampUp || t.phase = .advance || (t.phase = .rampDown && !t.unloading)) then
      s.phaseRequest .crowd (.force (s.lockedCrowd t w.push))
    else s
  | none => s

/-- The hoist in TENSION, or the TENSION request kept under an inhibit, follows a changed holdback (R125, R132). -/
def Axes.followHoldback (r : Int) (a : Axes) : Axes :=
  { a with
    hoist := if a.hoist.mode = ChannelMode.tension then { a.hoist with request := max leastTension r * fine } else a.hoist
    keptTension := a.keptTension.map fun _ => r }

/-- A HANGING BORE turns under its holdback. -/
def State.hangs (s : State) : Bool :=
  match s.seq.stroke with
  | some t => (s.orderOf t).isHanging && (t.phase = .rampUp || t.phase = .advance) && !t.closed
  | none => false

/-- The channels take a new limit set; a HANGING hoist follows the holdback; then the stall condition is tested against the setpoint the
set leaves (R106, R125, R132, R135). -/
def State.takeLimitAxes (w : LimitSet) (s : State) : State :=
  let s := s.onAxes fun a => { a with limits := w }
  let s :=
    match w.holdback with
    | some r => if s.hangs then s.onAxes (Axes.followHoldback r) else s
    | none => s
  s.settle.testStall

end Sys2Proof.Machine
end

