-- ==== Sys2Proof/Machine/Links.lean ====
section
/-! DEFINITION. The links' operations: frames in and out (R176), holding and taking requests (R177, R178), the transmit queue (R183),
envelope frames (R140), the commit checks (R11), and the two resets (R166, R185). -/
namespace Sys2Proof.Machine

/-! ### Frames (R176) -/

def requestId : CanId := 0x2C0
def envelopeId : CanId := 0x2C4
def responseId : CanId := 0x2C8
def noticeId : CanId := 0x2CC

/-- A two-byte field, most significant byte first. -/
def word16 (hi lo : Byte) : Nat := hi.toNat * 256 + lo.toNat

/-- A three-byte field in two's complement. -/
def signed24 (a b c : Byte) : Int :=
  let n : Nat := a.toNat * 65536 + b.toNat * 256 + c.toNat
  if n < 8388608 then (n : Int) else (n : Int) - 16777216

/-- The bytes of a number, most significant first. -/
def bytes16 (n : Nat) : List Byte := [BitVec.ofNat 8 (n / 256), BitVec.ofNat 8 n]
def bytes24 (v : BitVec 24) : List Byte :=
  [BitVec.ofNat 8 (v.toNat / 65536), BitVec.ofNat 8 (v.toNat / 256), BitVec.ofNat 8 v.toNat]

/-- A request frame of 8 bytes. -/
def asRequest (f : Frame) : Option Request :=
  match f.data with
  | [t, k, o1, o0, sub, v2, v1, v0] =>
    if f.id = requestId then some ⟨t, k.toNat, word16 o1 o0, sub.toNat, signed24 v2 v1 v0⟩ else none
  | _ => none

/-- The readouts of a rotary angle travel modulo 16,777,216 (R176). -/
def isAngleReadout (object sub : Nat) : Bool := (object = 0x3000 && sub = 0x2A) || (object = 0x7100 && sub = 0x05)

/-- A value as its three bytes; one that does not fit is a free value (DESIGN CHOICE, log entry 10). -/
def travels (object sub : Nat) (v : Int) : BitVec 24 :=
  if isAngleReadout object sub || (decide (-8388608 ≤ v) && decide (v ≤ 8388607)) then BitVec.ofInt 24 v else Config.overlongValue v

/-- The frame of a response. -/
def Response.frame (r : Response) : Frame :=
  ⟨responseId,
    [r.tag, BitVec.ofNat 8 (resultList.idxOf r.result)] ++ bytes16 r.object ++ [BitVec.ofNat 8 r.sub] ++
      bytes24 (travels r.object r.sub r.value)⟩

/-- D in a notice: −8,388,608 while it is absent. -/
def noticeDepth (d : Option Int) : BitVec 24 := BitVec.ofInt 24 (d.getD (-8388608))

/-- The frame of a notice, with the contents as they stand (R183). -/
def State.noticeFrame (l : Link) (s : State) : Frame :=
  let c := s.links.get l
  ⟨noticeId,
    bytes16 c.flags.toNat ++ [BitVec.ofNat 8 (modeList.idxOf s.ctl.mode), BitVec.ofNat 8 (seqStateList.idxOf s.seq.state)] ++
      bytes24 (noticeDepth s.toolDepth) ++ [c.count]⟩

/-- Change one link controller. -/
def State.onLink (l : Link) (f : LinkCtl → LinkCtl) (s : State) : State := { s with links := s.links.modify l f }

/-! ### Envelope frames (R140 to R144) -/

/-- The record an envelope frame carries; `none` for another frame, another length or a state byte that names no state. -/
def asEnvelope (f : Frame) : Option EnvRecord :=
  match f.data with
  | [n, st, p1, p0, u1, u0, t1, t0] =>
    if f.id = envelopeId then
      (stabilityList[st.toNat]?).map fun x => ⟨n.toNat, x, (word16 p1 p0 : Nat), (word16 u1 u0 : Nat), (word16 t1 t0 : Nat)⟩
    else none
  | _ => none

/-- A frame repeats the record's sequence number. -/
def Envelope.repeats (e : Envelope) (r : EnvRecord) : Bool :=
  match e.record with
  | some x => x.sequence = r.sequence
  | none => false

/-- ENVELOPE_LOST under the loss latch (R143). -/
def State.raiseLoss (m : UnitMode) (s : State) : State :=
  if (m = .operating || m = .surveyRequired) && !s.env.lossLatch then
    let s := s.raise .envelopeLost
    { s with env := { s.env with lossLatch := true } }
  else s

/-- The stop test of a fresh frame (R144). A STOP accepted in CONFIG leaves the latch as it is, so a latch already SET stays SET (DESIGN CHOICE,
log entry 57). -/
def State.testStop (st : Stability) (s : State) : State :=
  if st = .stop then
    if s.ctl.mode != .config && !s.env.stopLatch then
      let s := s.raise .stabilityStop
      { s with env := { s.env with stopLatch := true } }
    else s
  else { s with env := { s.env with stopLatch := false } }

/-- A fresh frame is accepted (R140, R141, R144). -/
def State.acceptEnvelope (r : EnvRecord) (s : State) : State :=
  let was := s.env.freshness
  let s : State := { s with env := { s.env with
    record := some (s.profile.clampRecord r), freshness := .fresh, freshTimer := some 300, lossTimer := some 2000
    lossLatch := if was = .fresh then s.env.lossLatch else false } }
  let s := if was = .fresh then s else s.setFlagsAll flagEnvelopeFresh
  ((s.trigger .envelope).testStop r.state).settle.arrive

/-- A frame on the bus of a DOWN link is not received, and its bus was not idle (R184; DEDUCED, log entry 17). -/
def State.busBusy (l : Link) (s : State) : State := s.onLink l fun c => { c with idle := some 250 }

/-- An envelope frame at its link controller and the receiver; a DOWN link receives nothing. -/
def State.takeEnvelope (l : Link) (f : Frame) (s : State) : State :=
  if (s.links.get l).up then
    match asEnvelope f with
    | some r => if l = .stability then if s.env.repeats r then s else s.acceptEnvelope r else s
    | none => s
  else s.busBusy l

/-! ### Requests (R177, R178) -/

/-- A request arrives: held, or answered BUSY when four are held. -/
def State.holdRequest (l : Link) (q : Request) (s : State) : State :=
  if (s.links.get l).buffer.length < 4 then s.onLink l fun c => { c with buffer := c.buffer ++ [q] } else s.refuse l q .busy

/-- A frame arrives at a link controller; a DOWN link receives nothing. -/
def State.receive (l : Link) (f : Frame) (s : State) : State :=
  if (s.links.get l).up then
    match asRequest f with
    | some q => s.holdRequest l q
    | none => s.takeEnvelope l f
  else s.busBusy l

/-- The oldest held request of a link, where it is one that this command takes. -/
def State.oldest (l : Link) (r : Row) (s : State) : Option Request :=
  (s.links.get l).buffer.head?.filter fun q => q.row = r

/-- Take the oldest held request: the first failing check of R177 answers it, otherwise its own rule does. -/
def State.taking (l : Link) (r : Row) (act : Request → State → State) (s : State) : State :=
  match s.oldest l r with
  | none => s
  | some q =>
    let s := s.onLink l fun c => { c with buffer := c.buffer.tail }
    if q.vet l = .ok then act q s else s.refuse l q (q.vet l)

/-- A READ, answered with the field's value, or STATE while it is absent (R177). -/
def State.answerRead (l : Link) (q : Request) (s : State) : State :=
  match q.field.bind s.read with
  | some v => s.answer l q .ok v
  | none => s.refuse l q .state

/-! ### Resets (R166, R185 and the chapters' reset tables) -/

/-- An entry at a unit reset (R80). -/
def State.resetEntry (s : State) (k : Fin 32) (e : Entry) : Entry :=
  match s.seq.stroke with
  | some t =>
    if t.index = k then ⟨.console, e.order, some ⟨.reset, t.reason, some { t.figures with endDepth := s.toolDepth }⟩⟩
    else if e.owner = .unit then ⟨.console, e.order, some ⟨.notRun, none, none⟩⟩
    else e
  | none => if e.owner = .unit then ⟨.console, e.order, some ⟨.notRun, none, none⟩⟩ else e

/-- A link controller at a unit reset (R185). A response to a UNIT_RESET demand that still waits is discarded too, and no second reset follows
it (DESIGN CHOICE, log entry 56). -/
def LinkCtl.afterReset (c : LinkCtl) : LinkCtl :=
  let c' : LinkCtl := { c with buffer := [], queue := [], flags := flagUnitReset }
  if c.enables &&& flagUnitReset = 0 then c' else c'.noticeDue

/-- The gear a unit reset keeps: unknown if a shift was under way (R138). -/
def Axes.keptGear (a : Axes) : Option Gear :=
  match a.shift with
  | .shifting _ => none
  | _ => a.gear

/-- The unit mode a unit reset leads to (R166). -/
def State.modeAfterReset (s : State) : UnitMode :=
  if s.profile.committed && s.faults.committed then .surveyRequired else .config

/-- A unit reset: every block takes its unit-reset values (R16, R39, R60, R61, R80, R120, R138, R145, R148, R163, R166, R185)
(DEDUCED, log entries 6 and 24; for a demanded reset whose response still waits, DESIGN CHOICE, log entry 56). -/
def State.unitReset (s : State) : State :=
  let mode := s.modeAfterReset
  ({ State.reset with
      pending := s.pending
      profile := s.profile
      slurry := s.slurry
      marks := s.marks
      ring := Vector.ofFn fun k => s.resetEntry k s.ring[k]
      limits := ⟨LimitSet.unknown, s.limits.dry, false, none, false⟩
      axes := { Axes.reset with gear := s.axes.keptGear }
      env := Envelope.reset s.env.record
      faults := { s.faults with state := .clear, context := none, lastFault := none }
      ctl := ⟨mode, none, .idle, false⟩
      sup := Supervision.clean (mode = .surveyRequired)
      links := s.links.map LinkCtl.afterReset
      resetLine := s.resetLine
      free := s.free } : State).setLines

/-- Start from supply (R185): everything at its power-on value; the queue of commands and the model's own count stay. -/
def State.powerOn (s : State) : State := { State.reset with pending := s.pending, free := s.free }

/-- A sample of the reset input line (R166). -/
def State.sampleReset (asserted : Bool) (s : State) : State :=
  let change := asserted && s.resetLine = some false
  let s : State := { s with resetLine := some asserted }
  if change then s.unitReset else s

/-! ### The transmit queue and the bus (R183, R184) -/

/-- The frame at the head of an UP link's transmit queue. -/
def State.sending (l : Link) (s : State) : Option TxFrame := if (s.links.get l).up then (s.links.get l).queue.head? else none

/-- The response at the head goes onto the bus; a UNIT_RESET's response takes the reset (R166). -/
def State.sendResponse (l : Link) (s : State) : State :=
  match s.sending l with
  | some (.response r) =>
    let s := s.onLink l fun c => { c with queue := c.queue.tail, bus := some r.frame }
    if r.resets then s.unitReset else s
  | _ => s

/-- The notice at the head goes onto the bus, with the count risen (R176, R183). -/
def State.sendNotice (l : Link) (s : State) : State :=
  match s.sending l with
  | some .notice =>
    let s := s.onLink l fun c => { c with count := c.count + 1 }
    s.onLink l fun c => { c with queue := c.queue.tail, bus := some (s.noticeFrame l) }
  | _ => s

/-- A response that takes a unit reset waits in the queue. -/
def LinkCtl.resetWaits (c : LinkCtl) : Bool :=
  c.queue.any fun f =>
    match f with
    | .response r => r.resets
    | .notice => false

/-- The notify set of the links other than one. -/
def otherLinks (l : Link) : NotifySet := notifyAll &&& ~~~(linkBit l)

/-- A link goes bus-off (R166, R184). -/
def State.goBusOff (l : Link) (s : State) : State :=
  let c := s.links.get l
  if c.up then
    let s := s.onLink l fun c => { c with up := false, buffer := [], queue := [], idle := some 250 }
    let s := (s.raise .linkDown).setFlagsOn (otherLinks l) flagLinkState
    if c.resetWaits then s.unitReset else s
  else s.onLink l fun c => { c with idle := some 250 }

/-- A DOWN link whose bus has been idle for 250 ms returns (R184). -/
def State.returnLink (l : Link) (s : State) : State :=
  let c := s.links.get l
  if !c.up && c.idle = some 0 then
    let s := (s.onLink l fun c => { c with up := true, idle := none }).setFlagsAll flagLinkState
    s.onLink l fun c => if c.flags &&& c.enables = 0 then c else c.noticeDue
  else s

/-! ### Commits (R10 to R14, R152) -/

/-- Each station exceeds the one before it by at least 100 mm. -/
def spaced : List Int → Bool
  | a :: b :: rest => decide (a + 100 ≤ b) && spaced (b :: rest)
  | _ => true

/-- The commit conditions of section S(k+1) (R11). -/
def Profile.sectionOk (p : Profile) (k : Fin 5) : Bool :=
  p.sections[k].toList.all Option.isSome &&
    (k.val = 0 || decide (fig ((p.sections[k.val - 1]?).bind (·.bottom)) < fig p.sections[k].bottom))

/-- The commit conditions of interface k (R11). -/
def Profile.interfaceOk (p : Profile) (k : Fin 5) : Bool :=
  let r := p.interfaces[k]
  let l := (p.stations k).map Prod.snd
  r.travel.isSome && r.push.isSome && r.pull.isSome && r.count.isSome && decide ((l.length : Int) = fig r.count) &&
    decide (fig r.travel ≤ fig p.sections[k].length) && (l.all fun x => decide (0 ≤ x) && decide (x ≤ fig r.travel)) && spaced l

/-- The records in commit order with their conditions (R11). -/
def Profile.checks (p : Profile) : List (Nat × Bool) :=
  [(0x1000, p.machine.toList.all Option.isSome && decide (fig p.machine.rTop ≤ fig p.machine.rDatum - 500)),
   (0x1010, p.kelly.toList.all Option.isSome && decide (2 * p.tol < p.seat))] ++
    (p.members.map fun k => (0x1101 + k.val, p.sectionOk k)) ++
    (p.members.map fun k => (0x1200 + k.val, p.interfaceOk k)) ++
    [(0x1300, p.tool.toList.all Option.isSome)]

/-- The first record that fails. -/
def Profile.firstFailing (p : Profile) : Option Nat := (p.checks.find? fun c => !c.2).map Prod.fst

/-- The second of the two commits takes the unit out of CONFIG (R13). -/
def State.leaveIfCommitted (s : State) : State :=
  if s.ctl.mode = .config && s.profile.committed && s.faults.committed then s.changeMode .surveyRequired else s

/-- The profile becomes COMMITTED (R10, R12, R110, R141). -/
def State.commit (s : State) : State :=
  let p : Profile := { s.profile with committed := true }
  let s : State := { s with
    profile := p
    limits := { s.limits with dry := p.dryWeights }
    env := { s.env with record := s.env.record.map p.clampRecord } }
  s.leaveIfCommitted

/-- RECONFIGURE taken (R14). -/
def State.reconfigured (s : State) : State :=
  let s := s.changeMode .config
  let s := ({ s with profile := { s.profile with committed := false } } : State).withdrawModel
  let s := (s.onKelly fun m => { m with ropeDepth := none, torque := none, crowdForce := none }).setDebt 0 0
  let s := s.onLimits fun m => { m with set := LimitSet.unknown, dry := DryWeights.absent }
  ((s.onAxes fun a => { a.brakeAll with limits := LimitSet.unknown }).setLines).settle

end Sys2Proof.Machine
end

