-- ==== Sys2Proof/Machine/Time.lean ====
section
/-! DEFINITION. What the unit does on an empty queue (DESIGN CHOICE, log entries 2 and 3): which commands have their occasion and which of them
comes next, and one millisecond of time (timers, R125 and R129 ramps, the rotation time of R136). -/
namespace Sys2Proof.Machine

/-! ### One millisecond -/

/-- A running timer loses a millisecond and stays due at 0. -/
def Timer.tick (t : Timer) : Timer := t.map fun n => n - 1

/-- A setpoint moves toward its goal by at most a rate. -/
def toward (rate goal p : Int) : Int := if p < goal then min goal (p + rate) else max goal (p - rate)

/-- A move from a setpoint that may fall as far as zero and does not rise, on its own side of zero or on the other (R126). That a setpoint held
at its cap falls toward a smaller request, and no further than zero, is the model's choice (DESIGN CHOICE, log entry 74). -/
def unrisen (now next : Int) : Int := if 0 ≤ now then max 0 (min now next) else min 0 (max now next)

/-- A setpoint after one millisecond: while overloaded it does not rise (R126). -/
def Channel.ramp (rate goal : Int) (c : Channel) : Channel :=
  let p := toward rate goal c.setpoint
  let p := if c.overload.isSome then unrisen c.setpoint p else p
  { c with setpoint := p, reached := c.reached || (p != c.setpoint && (p = goal || p = 0)) }

/-- The rate of a channel: its ramp rate, or the faster fall of a fast stop (R125, R129). -/
def State.rateOf (x : Axis) (s : State) : Int :=
  if s.axes.governor = .fast then max (s.axes.get x).fastRate (s.rampRate x) else s.rampRate x

/-- One channel's millisecond. -/
def State.tickChannel (x : Axis) (s : State) : State :=
  let rate := s.rateOf x
  let goal := s.goal x
  s.onAxes fun a => a.modify x fun c =>
    let c := if c.mode = .braked then c else c.ramp rate goal
    { c with brake := c.brake.tick }

/-- The rotation time of the no-advance window runs (R136). -/
def State.windowRuns (s : State) : Bool :=
  s.turningCw && s.axes.relief.isNone && !s.inhibited .rotateCw && s.axes.rotary.cap != some 0 &&
    (match s.seq.stroke with
      | some t => t.inMotion && t.phase = .advance
      | none => false)

/-- The no-advance window is full. -/
def windowFull : Nat := 120000

/-- The timers of the stroke in flight and its duration. -/
def Stroke.tick (t : Stroke) : Stroke :=
  { t with
    rotationLimit := t.rotationLimit.tick
    sledWatch := t.sledWatch.tick
    dwell := t.dwell.tick
    releaseDwell := t.releaseDwell.tick
    unseatWatch := t.unseatWatch.tick
    stuckWatch := t.stuckWatch.tick
    figures := { t.figures with durationMs := t.figures.durationMs + 1 } }

/-- The timers of the channels. -/
def Axes.tick (runs : Bool) (a : Axes) : Axes :=
  { a with
    shiftTimer := a.shiftTimer.tick
    stallTimer := a.stallTimer.tick
    window := if runs then a.window.map fun w => { w with time := min windowFull (w.time + 1) } else a.window
    sinceRope := a.sinceRope + 1
    sinceSled := a.sinceSled + 1 }

/-- The sensor timers run while supervision does (R41). -/
def Supervision.tick (u : Supervision) : Supervision :=
  if u.active then { u with inputs := u.inputs.map fun i => { i with timer := i.timer.tick } } else u

/-- One millisecond passes. -/
def State.tick (s : State) : State :=
  let s : State := { s with
    kelly := { s.kelly with seatSettle := s.kelly.seatSettle.tick, releaseSettle := s.kelly.releaseSettle.tick }
    seq := { s.seq with stroke := s.seq.stroke.map Stroke.tick }
    axes := s.axes.tick s.windowRuns
    env := { s.env with freshTimer := s.env.freshTimer.tick, lossTimer := s.env.lossTimer.tick }
    sup := s.sup.tick
    links := s.links.map fun c => { c with idle := c.idle.tick } }
  (((s.tickChannel .hoist).tickChannel .crowd).tickChannel .rotary).settle

/-! ### Which commands have their occasion -/

/-- A shift can begin (R134). -/
def State.shiftReady (s : State) : Bool :=
  (match s.axes.shift with
    | .pending _ => true
    | _ => false) &&
    s.axes.rotary.mode = .braked && !s.inhibited .gearShift && s.axes.governor = .free

/-- A timer is due. -/
def due (t : Timer) : Bool := t = some 0

/-- A timer of the stroke in flight is due. -/
def State.strokeDue (f : Stroke → Timer) (s : State) : Bool :=
  match s.seq.stroke with
  | some t => due (f t)
  | none => false

/-- The no-advance window is full. -/
def State.windowDue (s : State) : Bool :=
  match s.axes.window with
  | some w => windowFull ≤ w.time
  | none => false

/-- The loss timer is due: only after the freshness timer has made the freshness STALE (R143) (DEDUCED, log entry 23). -/
def State.lossDue (s : State) : Bool := due s.env.lossTimer && s.env.freshness != .fresh

/-- The command by which the channels take an order of the fault controller. -/
def ChannelOrder.command : ChannelOrder → Instr
  | .normalStop => .normalStop
  | .fastStop => .fastStop
  | .cut => .cut
  | .ended => .reactionEndedAtChannels

/-- A command, where its occasion stands. -/
def offer (b : Bool) (i : Instr) : List Instr := if b then [i] else []

/-- Hand-offs not taken yet, and conditions that stand. -/
def State.handOffs (s : State) : List Instr :=
  let m := s.mail
  offer (!m.depthSeq.isEmpty) .depthChangeAtSequencer ++ offer (!m.tobSeq.isEmpty) .tobChangeAtSequencer ++
  offer (!m.depthMark.isEmpty) .markCrossingTest ++ offer (!m.triggers.isEmpty) .limitRecomputation ++
  offer (!m.limitAxes.isEmpty) .limitSetAtChannels ++ offer (m.limitModel != 0) .limitSetAtModel ++
  offer (!m.limitSeq.isEmpty) .limitSetAtSequencer ++ offer (!m.unionAxes.isEmpty) .unionAtChannels ++
  offer (!m.unionSeq.isEmpty) .unionAtSequencer ++ offer (!m.modeSeq.isEmpty) .modeChangeAtSequencer ++
  offer (!m.modeEnv.isEmpty) .modeChangeAtEnvelope ++ offer (!m.modeSup.isEmpty) .modeChangeAtSupervision ++
  offer (!m.modeLines.isEmpty) .modeChangeAtLines ++ (m.raises.map fun r => .faultRaise r.vector) ++
  offer (m.lockout != 0) .lockoutAtModeController ++ offer (!m.reactions.isEmpty) .reactionAtSequencer ++
  m.orders.head?.toList.map ChannelOrder.command ++ offer s.completes .strokeCompletion ++
  offer s.reactionEnds .reactionCompletion ++ offer s.shiftReady .gearShiftBegin ++
  ([Axis.hoist, .crowd, .rotary].filter fun x => (s.axes.get x).reached).map .setpointReachesRequest

/-- Timers that are due. -/
def State.timersDue (s : State) : List Instr :=
  ((allInputs.filter fun i => s.sup.active && due s.sup.inputs[inputIndex i].timer).map .sensorTimerExpiry) ++
  (([Axis.hoist, .crowd, .rotary].filter fun x => due (s.axes.get x).brake).map .brakeTimerExpiry) ++
  offer (due s.axes.shiftTimer) .shiftTimerExpiry ++ offer (due s.axes.stallTimer) .stallTimerExpiry ++
  offer s.windowDue .noAdvanceWindowExpiry ++ offer (due s.kelly.seatSettle) .seatSettleExpiry ++
  offer (due s.kelly.releaseSettle) .releaseSettleExpiry ++ offer (s.strokeDue Stroke.releaseDwell) .releaseDwellExpiry ++
  offer (s.strokeDue Stroke.sledWatch) .sledWatchExpiry ++ offer (s.strokeDue Stroke.rotationLimit) .rotationTimeLimitExpiry ++
  offer (s.strokeDue Stroke.dwell) .dwellTimeExpiry ++ offer (s.strokeDue Stroke.unseatWatch) .unseatWatchExpiry ++
  offer (s.strokeDue Stroke.stuckWatch) .stuckWatchExpiry ++ offer (due s.env.freshTimer) .freshnessTimerExpiry ++
  offer s.lossDue .lossTimerExpiry ++
  (([Link.console, .stability, .recorder].filter fun l => !(s.links.get l).up && due (s.links.get l).idle).map .linkReturn)

/-- The command that takes a held request (DESIGN CHOICE, log entry 5). -/
def Row.command (l : Link) : Row → Instr
  | .other => .registerWriteOther l
  | .profileField => .profileFieldWrite l
  | .stationCount => .stationCountWrite l
  | .station => .stationWrite l
  | .slurry => .slurryWrite l
  | .markDepth => .markDepthWrite l
  | .markDisarm => .markDisarmWrite l
  | .markField => .markFieldWrite l
  | .orderField => .orderFieldWrite l
  | .kind => .kindWrite l
  | .boreMode => .boreModeWrite l
  | .plan => .planWrite l
  | .reactionClass => .reactionClassWrite l
  | .reactionTable => .reactionTableWrite l
  | .inhibitWrite => .inhibitWrite l
  | .inhibitSet => .inhibitSet l
  | .inhibitClear => .inhibitClear l
  | .inhibitToggle => .inhibitToggle l
  | .flagsWrite => .noticeFlagsWrite l
  | .flagsClear => .noticeFlagsClear l
  | .enablesWrite => .noticeEnablesWrite l
  | .enablesSet => .noticeEnablesSet l
  | .enablesClear => .noticeEnablesClear l
  | .enablesToggle => .noticeEnablesToggle l
  | .demand .start => .start l
  | .demand .pause => .pause l
  | .demand .resume => .resume l
  | .demand .abort => .abort l
  | .demand .flush => .flush l
  | .demand .handover => .handover l
  | .demand .unpark => .unpark l
  | .demand .commitReactions => .commitReactions l
  | .demand .restore => .restore l
  | .demand .unitReset => .unitReset l
  | .demand .clearLockoutRecord => .clearLockoutRecord l
  | .demand .commitProfile => .commitProfile l
  | .demand .reconfigure => .reconfigure l

/-- What a link controller may do next in its own time: take its oldest request, send the frame at its queue's head. -/
def State.linkWork (l : Link) (s : State) : List Instr :=
  (s.links.get l).buffer.head?.toList.map (fun q => q.row.command l) ++
    (s.sending l).toList.map fun f =>
      match f with
      | .response _ => .responseSent l
      | .notice => .noticeSent l

/-- The commands among which an empty queue chooses: those due at once, else what the links may do or, as `none`, that a
millisecond passes. -/
def State.choices (s : State) : List (Option Instr) :=
  match s.handOffs ++ s.timersDue with
  | [] => none :: (s.linkWork .console ++ s.linkWork .stability ++ s.linkWork .recorder).map some
  | l => l.map some

/-- What happens next on an empty queue: a command, or a millisecond of time (DESIGN CHOICE, log entry 3). -/
def State.idleCommand (s : State) : Option Instr := (s.choices[Config.idleChoice s.free % s.choices.length]?).join

/-- A free choice has been made. -/
def State.chosen (s : State) : State := { s with free := s.free + 1 }

end Sys2Proof.Machine
end

