-- ==== Sys2Proof/Machine/BusRows.lean ====
section
/-! DEFINITION. Power, reset, frames and the bus (R140, R166, R176 to R185): one meaning for each command. -/
namespace Sys2Proof.Machine

/-- POWER_ON (R185, and the power-on values of every chapter). -/
def execPowerOn (s : State) : Host.Outcome State Fault Refusal :=
  .next s.powerOn

/-- RESET_INPUT_CHANGE (R166). -/
def execResetInputChange (asserted : Bool) (s : State) : Host.Outcome State Fault Refusal :=
  .next (s.sampleReset asserted)

/-- REQUEST_ARRIVAL (R176, R178): a frame is handled by its identifier and length. -/
def execRequestArrival (l : Link) (f : Frame) (s : State) : Host.Outcome State Fault Refusal :=
  .next (s.receive l f)

/-- ENVELOPE_FRAME (R140): an envelope frame at its link controller (DESIGN CHOICE, log entry 30). -/
def execEnvelopeFrame (l : Link) (f : Frame) (s : State) : Host.Outcome State Fault Refusal :=
  .next (s.takeEnvelope l f)

/-- RESPONSE_SENT (R183, R166) (DEDUCED, log entry 26). -/
def execResponseSent (l : Link) (s : State) : Host.Outcome State Fault Refusal :=
  .next (s.sendResponse l)

/-- NOTICE_SENT (R176, R183). -/
def execNoticeSent (l : Link) (s : State) : Host.Outcome State Fault Refusal :=
  .next (s.sendNotice l)

/-- BUS_OFF (R184, R166). -/
def execBusOff (l : Link) (s : State) : Host.Outcome State Fault Refusal :=
  .next (s.goBusOff l)

/-- LINK_RETURN (R184). -/
def execLinkReturn (l : Link) (s : State) : Host.Outcome State Fault Refusal :=
  .next (s.returnLink l)

end Sys2Proof.Machine
end

