-- ==== Sys2Proof/Machine/DemandRows.lean ====
section
/-! DEFINITION. The demands (R181): one meaning for each command. -/
namespace Sys2Proof.Machine

/-- The unit mode and the fault controller let the sequencer run (R72, R74). -/
def State.mayRun (s : State) : Bool :=
  (s.ctl.mode = .surveyRequired || s.ctl.mode = .operating) && s.faults.state = .clear

/-- The sequencer becomes RUNNING and takes the next entry (R68). -/
def State.run (s : State) : State := (s.setSeqState .running).takeEntry

/-- START (R72). -/
def State.demandStart (l : Link) (q : Request) (s : State) : State :=
  if s.seq.state = .stopped && s.mayRun then (s.answer l q .ok 0).run else s.refuse l q .state

/-- RESUME (R74). -/
def State.demandResume (l : Link) (q : Request) (s : State) : State :=
  if (s.seq.state = .held || s.seq.state = .faulted) && s.mayRun then (s.answer l q .ok 0).run else s.refuse l q .state

/-- PAUSE (R73). -/
def State.demandPause (l : Link) (q : Request) (s : State) : State :=
  match s.seq.state with
  | .running => (s.answer l q .ok 0).onStroke (Stroke.raiseEnd .held)
  | .suspended => (s.answer l q .ok 0).setSeqState .held
  | .held => s.answer l q .ok 0
  | .stopped => s.refuse l q .state
  | .faulted => s.refuse l q .state

/-- ABORT (R75). -/
def State.demandAbort (l : Link) (q : Request) (s : State) : State :=
  match s.seq.state with
  | .running => (s.answer l q .ok 0).abortStroke.progress
  | _ => (s.answer l q .ok 0).setSeqState .stopped

/-- An entry returned by FLUSH (R76). -/
def Entry.flushed (e : Entry) : Entry := if e.owner = .unit then ⟨.console, e.order, some ⟨.notRun, none, none⟩⟩ else e

/-- FLUSH (R76). -/
def State.demandFlush (l : Link) (q : Request) (s : State) : State :=
  if s.seq.state = .stopped then
    let some_ := s.ring.toList.any fun e => e.owner = .unit
    let s : State := { s.answer l q .ok 0 with ring := s.ring.map Entry.flushed }
    if some_ then s.setFlagsAll flagStrokeDone else s
  else s.refuse l q .state

/-- HANDOVER (R66). -/
def State.demandHandover (l : Link) (q : Request) (s : State) : State :=
  match if q.value < 0 then none else fin? 32 q.value.toNat with
  | none => s.refuse l q .range
  | some k =>
    let e := s.ring[k]
    if e.owner ≠ .console then s.refuse l q .owned
    else if e.order.kind = .none then s.refuse l q .state
    else
      match e.order.firstMissing with
      | some sub => s.answer l q .state (sub : Int)
      | none =>
        let s : State := { s.answer l q .ok 0 with ring := s.ring.set k ⟨.unit, e.order, none⟩ }
        if s.seq.state = .suspended && s.seq.next = k then s.run else s

/-- The confirm torque is formed, and the re-seat check begins or fails at once (R175). It compares the magnitude of the measured torque, so a
drive wound either way fails the check (DESIGN CHOICE, log entry 67). -/
def State.beginReseat (s : State) : State :=
  let c := s.profile.confirmTorque
  let wound :=
    match s.kelly.torque with
    | some t => decide (c ≤ magnitude t)
    | none => true
  let s : State := { s with ctl := { s.ctl with reseat := .checking c false false } }
  if wound then s.reseatFailed .seatEarly else s.phaseRequest .rotary (.creep true)

/-- UNPARK (R174). -/
def State.demandUnpark (l : Link) (q : Request) (s : State) : State :=
  match s.ctl.park with
  | none => s.refuse l q .state
  | some p =>
    if s.ctl.mode ≠ .parked || s.faults.state ≠ .clear || s.ctl.reseat ≠ .idle ||
        (p.kind = .latch && s.limits.set.torque = 0) then s.refuse l q .state
    else
      let s := s.answer l q .ok 0
      if p.kind = .stow then s.changeMode .operating else s.beginReseat

/-- COMMIT_REACTIONS (R13, R152). -/
def State.demandCommitReactions (l : Link) (q : Request) (s : State) : State :=
  if s.faults.committed || s.faults.length = 0 then s.refuse l q .state
  else ((s.answer l q .ok 0).onFaults fun f => { f with committed := true }).leaveIfCommitted

/-- RESTORE (R159) (DESIGN CHOICE, log entry 25). -/
def State.demandRestore (l : Link) (q : Request) (s : State) : State :=
  if s.faults.state = .cut && s.allAtRest then (s.answer l q .ok 0).restoreCut else s.refuse l q .state

/-- CLEAR_LOCKOUT_RECORD (R162). -/
def State.demandClearRecord (l : Link) (q : Request) (s : State) : State :=
  if s.ctl.mode = .lockout then s.refuse l q .state
  else (s.answer l q .ok 0).onFaults fun f => { f with lockoutRecord := none }

/-- COMMIT_PROFILE (R10, R11, R13). -/
def State.demandCommitProfile (l : Link) (q : Request) (s : State) : State :=
  if s.ctl.mode ≠ .config || s.profile.committed then s.refuse l q .state
  else
    match s.profile.firstFailing with
    | some obj => s.answer l q .state (obj : Int)
    | none => (s.answer l q .ok 0).commit

/-- RECONFIGURE (R14) (DEDUCED, log entry 29). -/
def State.demandReconfigure (l : Link) (q : Request) (s : State) : State :=
  let stowed := s.ctl.mode = .parked && s.ctl.park.any fun p => p.kind = .stow
  if s.seq.state = .stopped && (s.ctl.mode = .surveyRequired || stowed) then (s.answer l q .ok 0).reconfigured
  else s.refuse l q .state

/-- START (R72). -/
def execStart (l : Link) (s : State) : Host.Outcome State Fault Refusal :=
  .next (s.taking l (.demand .start) fun q s => s.demandStart l q)

/-- PAUSE (R73). -/
def execPause (l : Link) (s : State) : Host.Outcome State Fault Refusal :=
  .next (s.taking l (.demand .pause) fun q s => s.demandPause l q)

/-- RESUME (R74). -/
def execResume (l : Link) (s : State) : Host.Outcome State Fault Refusal :=
  .next (s.taking l (.demand .resume) fun q s => s.demandResume l q)

/-- ABORT (R75). -/
def execAbort (l : Link) (s : State) : Host.Outcome State Fault Refusal :=
  .next (s.taking l (.demand .abort) fun q s => s.demandAbort l q)

/-- FLUSH (R76). -/
def execFlush (l : Link) (s : State) : Host.Outcome State Fault Refusal :=
  .next (s.taking l (.demand .flush) fun q s => s.demandFlush l q)

/-- HANDOVER (R66). -/
def execHandover (l : Link) (s : State) : Host.Outcome State Fault Refusal :=
  .next (s.taking l (.demand .handover) fun q s => s.demandHandover l q)

/-- UNPARK (R174, R175). -/
def execUnpark (l : Link) (s : State) : Host.Outcome State Fault Refusal :=
  .next (s.taking l (.demand .unpark) fun q s => s.demandUnpark l q)

/-- COMMIT_REACTIONS (R152). -/
def execCommitReactions (l : Link) (s : State) : Host.Outcome State Fault Refusal :=
  .next (s.taking l (.demand .commitReactions) fun q s => s.demandCommitReactions l q)

/-- RESTORE (R159). -/
def execRestore (l : Link) (s : State) : Host.Outcome State Fault Refusal :=
  .next (s.taking l (.demand .restore) fun q s => s.demandRestore l q)

/-- UNIT_RESET (R166): answered OK; the reset is taken once that response is sent. -/
def execUnitReset (l : Link) (s : State) : Host.Outcome State Fault Refusal :=
  .next (s.taking l (.demand .unitReset) fun q s => s.answerReset l q)

/-- CLEAR_LOCKOUT_RECORD (R162). -/
def execClearLockoutRecord (l : Link) (s : State) : Host.Outcome State Fault Refusal :=
  .next (s.taking l (.demand .clearLockoutRecord) fun q s => s.demandClearRecord l q)

/-- COMMIT_PROFILE (R10). -/
def execCommitProfile (l : Link) (s : State) : Host.Outcome State Fault Refusal :=
  .next (s.taking l (.demand .commitProfile) fun q s => s.demandCommitProfile l q)

/-- RECONFIGURE (R14). -/
def execReconfigure (l : Link) (s : State) : Host.Outcome State Fault Refusal :=
  .next (s.taking l (.demand .reconfigure) fun q s => s.demandReconfigure l q)

end Sys2Proof.Machine
end

