-- ==== Sys2Proof/Machine/HandOffRows.lean ====
section
/-! DEFINITION. The hand-offs between blocks (R51, R58, R70, R77 to R79, R106, R124, R128 to R134, R147, R153 to R165): one meaning for each command.
A hand-off of which none waits has no effect (DESIGN CHOICE, log entry 4). -/
namespace Sys2Proof.Machine

/-- Change what waits between the blocks. -/
def State.onMail (f : Mail → Mail) (s : State) : State := { s with mail := f s.mail }

/-- The sequencer takes the oldest change of D (R51). -/
def State.takeDepthSeq (s : State) : State :=
  match s.mail.depthSeq with
  | c :: rest => (s.onMail fun m => { m with depthSeq := rest }).testDepth c.new
  | [] => s

/-- The sequencer takes the oldest change of TOB: BOTTOM of a DESCEND (R85). -/
def State.takeTobSeq (s : State) : State :=
  match s.mail.tobSeq with
  | b :: rest =>
    let s := s.onMail fun m => { m with tobSeq := rest }
    match s.moving with
    | some t => if b && (s.orderOf t).kind = .descend then (s.endMotion .bottom none).progress else s
    | none => s
  | [] => s

/-- The mark comparator takes the oldest change of D (R58). -/
def State.takeDepthMark (s : State) : State :=
  match s.mail.depthMark with
  | c :: rest => (s.onMail fun m => { m with depthMark := rest }).testMarks c
  | [] => s

/-- The limit computer takes the oldest trigger (R106). -/
def State.takeTrigger (s : State) : State :=
  match s.mail.triggers with
  | _ :: rest => (s.onMail fun m => { m with triggers := rest }).recompute
  | [] => s

/-- The channels take the oldest limit set (R106, R124). -/
def State.takeLimitAxesMail (s : State) : State :=
  match s.mail.limitAxes with
  | w :: rest => ((s.onMail fun m => { m with limitAxes := rest }).takeLimitAxes w).progress
  | [] => s

/-- The kelly model takes a limit set (R20, R21). -/
def State.takeLimitModel (s : State) : State :=
  if s.mail.limitModel = 0 then s else (s.onMail fun m => { m with limitModel := m.limitModel - 1 }).evalTob

/-- The sequencer takes the oldest limit set (R98, R106). -/
def State.takeLimitSeqMail (s : State) : State :=
  match s.mail.limitSeq with
  | w :: rest => ((s.onMail fun m => { m with limitSeq := rest }).takeLimitSeq w).progress
  | [] => s

/-- The channels take the oldest union (R132). -/
def State.takeUnionAxes (s : State) : State :=
  match s.mail.unionAxes with
  | u :: rest => (((s.onMail fun m => { m with unionAxes := rest }).onAxes fun a => { a with union := u }).settle).progress
  | [] => s

/-- The sequencer takes the oldest union: a stroke whose own direction has entered it is marked (R79). -/
def State.takeUnionSeq (s : State) : State :=
  match s.mail.unionSeq with
  | u :: rest =>
    let s := s.onMail fun m => { m with unionSeq := rest }
    match s.seq.stroke with
    | some t =>
      match (s.orderOf t).ownDirection with
      | some d => if holds u d then s.onStroke fun t => { t with inhibited := true } else s
      | none => s
    | none => s
  | [] => s

/-- The sequencer takes the oldest change of the unit mode (R78). -/
def State.takeModeSeq (s : State) : State :=
  match s.mail.modeSeq with
  | c :: rest => (s.onMail fun m => { m with modeSeq := rest }).meetMode c.new
  | [] => s

/-- The envelope receiver takes the oldest change of the unit mode (R143). -/
def State.takeModeEnv (s : State) : State :=
  match s.mail.modeEnv with
  | c :: rest =>
    let s := s.onMail fun m => { m with modeEnv := rest }
    if s.env.freshness = .lost then s.raiseLoss c.new else s
  | [] => s

/-- Sensor supervision takes the oldest change of the unit mode (R41). On entering CONFIG no input stays in fault (DESIGN CHOICE, log
entry 49). -/
def State.takeModeSup (s : State) : State :=
  match s.mail.modeSup with
  | c :: rest =>
    let s := s.onMail fun m => { m with modeSup := rest }
    if c.old = .config then ({ s with sup := Supervision.clean true } : State).settle
    else if c.new = .config then ({ s with sup := Supervision.clean false } : State).settle
    else s
  | [] => s

/-- The fault controller takes the oldest change of the unit mode (R161). The lines follow the mode as it now stands, also where a later change
still waits (DESIGN CHOICE, log entry 69). -/
def State.takeModeLines (s : State) : State :=
  match s.mail.modeLines with
  | _ :: rest => (s.onMail fun m => { m with modeLines := rest }).setLines
  | [] => s

/-- The fault controller takes the oldest raise of a vector (R153). -/
def State.takeRaiseOf (v : FaultVector) (s : State) : State :=
  match s.mail.raises.find? fun r => r.vector = v with
  | some r => ((s.onMail fun m => { m with raises := m.raises.erase r }).takeRaise r).progress
  | none => s

/-- The unit mode controller takes LOCKOUT (R160, R165). A cut still on its way takes effect with it, since all three setpoints are zero while
the mode is LOCKOUT (R130; DEDUCED, log entry 37). In CONFIG, which no LOCKOUT leaves, the mode stays (R165; DEDUCED, log entry 38). -/
def State.takeLockout (s : State) : State :=
  if s.mail.lockout = 0 then s
  else
    let s := s.onMail fun m => { m with lockout := m.lockout - 1 }
    let s := if s.mail.orders.isEmpty then s else s.takeOrders
    if s.ctl.mode = .config then s else s.changeMode .lockout

/-- The sequencer takes the oldest reaction (R77). -/
def State.takeReaction (s : State) : State :=
  match s.mail.reactions with
  | r :: rest => ((s.onMail fun m => { m with reactions := rest }).meet r).progress
  | [] => s

/-- The channels take the fault controller's oldest order, where it is this one. -/
def State.takeOrderOf (o : ChannelOrder) (s : State) : State :=
  match s.mail.orders with
  | x :: rest => if x = o then ((s.onMail fun m => { m with orders := rest }).takeOrder o).progress else s
  | [] => s

/-- A setpoint's report is handed on: the end of RAMP_UP, and whatever waits on a setpoint (R94, R125, R156). -/
def State.takeReached (x : Axis) (s : State) : State :=
  if (s.axes.get x).reached then
    let s := s.onAxes fun a => a.modify x fun c => { c with reached := false }
    let c := s.axes.rotary
    match s.moving with
    | some t =>
      if x = .rotary && t.phase = .rampUp && s.axes.relief.isNone && decide (0 < c.setpoint) && c.setpoint = s.goal .rotary then
        (s.boundary State.beginAdvance).progress
      else s.progress
    | none => s.progress
  else s

/-- A PENDING shift begins (R134). -/
def State.beginShift (s : State) : State :=
  match s.axes.shift with
  | .pending g =>
    if s.shiftReady then
      (s.onAxes fun a => { a with shift := .shifting g, valve := some g, shiftTimer := some 3000 }).setGear none
    else s
  | _ => s

/-- STROKE_COMPLETION (R70). -/
def execStrokeCompletion (s : State) : Host.Outcome State Fault Refusal :=
  .next (if s.completes then s.complete else s)

/-- DEPTH_CHANGE_AT_SEQUENCER (R51). -/
def execDepthChangeAtSequencer (s : State) : Host.Outcome State Fault Refusal :=
  .next (s.takeDepthSeq)

/-- TOB_CHANGE_AT_SEQUENCER (R85). -/
def execTobChangeAtSequencer (s : State) : Host.Outcome State Fault Refusal :=
  .next (s.takeTobSeq)

/-- MARK_CROSSING_TEST (R58, R59). -/
def execMarkCrossingTest (s : State) : Host.Outcome State Fault Refusal :=
  .next (s.takeDepthMark)

/-- LIMIT_RECOMPUTATION (R106). -/
def execLimitRecomputation (s : State) : Host.Outcome State Fault Refusal :=
  .next (s.takeTrigger)

/-- LIMIT_SET_AT_CHANNELS (R124). -/
def execLimitSetAtChannels (s : State) : Host.Outcome State Fault Refusal :=
  .next (s.takeLimitAxesMail)

/-- LIMIT_SET_AT_MODEL (R20). -/
def execLimitSetAtModel (s : State) : Host.Outcome State Fault Refusal :=
  .next (s.takeLimitModel)

/-- LIMIT_SET_AT_SEQUENCER (R98). -/
def execLimitSetAtSequencer (s : State) : Host.Outcome State Fault Refusal :=
  .next (s.takeLimitSeqMail)

/-- UNION_AT_CHANNELS (R132). -/
def execUnionAtChannels (s : State) : Host.Outcome State Fault Refusal :=
  .next (s.takeUnionAxes)

/-- UNION_AT_SEQUENCER (R79). -/
def execUnionAtSequencer (s : State) : Host.Outcome State Fault Refusal :=
  .next (s.takeUnionSeq)

/-- MODE_CHANGE_AT_SEQUENCER (R78). -/
def execModeChangeAtSequencer (s : State) : Host.Outcome State Fault Refusal :=
  .next (s.takeModeSeq)

/-- MODE_CHANGE_AT_ENVELOPE (R143). -/
def execModeChangeAtEnvelope (s : State) : Host.Outcome State Fault Refusal :=
  .next (s.takeModeEnv)

/-- MODE_CHANGE_AT_SUPERVISION (R41). -/
def execModeChangeAtSupervision (s : State) : Host.Outcome State Fault Refusal :=
  .next (s.takeModeSup)

/-- MODE_CHANGE_AT_LINES (R161). -/
def execModeChangeAtLines (s : State) : Host.Outcome State Fault Refusal :=
  .next (s.takeModeLines)

/-- FAULT_RAISE (R153). -/
def execFaultRaise (v : FaultVector) (s : State) : Host.Outcome State Fault Refusal :=
  .next (s.takeRaiseOf v)

/-- LOCKOUT_AT_MODE_CONTROLLER (R165). -/
def execLockoutAtModeController (s : State) : Host.Outcome State Fault Refusal :=
  .next (s.takeLockout)

/-- REACTION_AT_SEQUENCER (R77). -/
def execReactionAtSequencer (s : State) : Host.Outcome State Fault Refusal :=
  .next (s.takeReaction)

/-- NORMAL_STOP (R128), on all three channels. -/
def execNormalStop (s : State) : Host.Outcome State Fault Refusal :=
  .next (s.takeOrderOf .normalStop)

/-- FAST_STOP (R129), on all three channels. -/
def execFastStop (s : State) : Host.Outcome State Fault Refusal :=
  .next (s.takeOrderOf .fastStop)

/-- CUT (R130), on all three channels. -/
def execCut (s : State) : Host.Outcome State Fault Refusal :=
  .next (s.takeOrderOf .cut)

/-- REACTION_COMPLETION (R156). -/
def execReactionCompletion (s : State) : Host.Outcome State Fault Refusal :=
  .next (if s.reactionEnds then s.endReaction else s)

/-- REACTION_ENDED_AT_CHANNELS (R128, R129). -/
def execReactionEndedAtChannels (s : State) : Host.Outcome State Fault Refusal :=
  .next (s.takeOrderOf .ended)

/-- SETPOINT_REACHES_REQUEST (R125). -/
def execSetpointReachesRequest (a : Axis) (s : State) : Host.Outcome State Fault Refusal :=
  .next (s.takeReached a)

/-- GEAR_SHIFT_BEGIN (R134). -/
def execGearShiftBegin (s : State) : Host.Outcome State Fault Refusal :=
  .next (s.beginShift)

end Sys2Proof.Machine
end

