-- ==== Sys2Proof/Machine/SampleRows.lean ====
section
/-! DEFINITION. The sensor samples and their timers (R40 to R44): one meaning for each command. -/
namespace Sys2Proof.Machine

/-- A sample lies within a range. -/
def sampleIn (lo hi x : Int) : Bool := decide (lo ≤ x) && decide (x ≤ hi)

/-- The input of a rotary port. -/
def rotaryInput : RotaryPort → SensorInput
  | .a => .rotaryA
  | .b => .rotaryB

/-- The input of a crowd pressure. -/
def crowdInput : CrowdPort → SensorInput
  | .cap => .crowdCap
  | .rod => .crowdRod

/-- An input's timer has expired: the input is in fault (R41). -/
def State.expireInput (i : SensorInput) (s : State) : State :=
  if s.sup.active && due s.sup.inputs[inputIndex i].timer then (s.setInput i none true).progress else s

/-- ROPE_PAYOUT_SAMPLE (R48). -/
def execRopePayoutSample (count : Int) (s : State) : Host.Outcome State Fault Refusal :=
  .next (s.sampled .ropePayout (sampleIn 0 1000000 count) fun s => s.takeRope count)

/-- ROPE_TENSION_SAMPLE (R20, R86, R88, R169). -/
def execRopeTensionSample (tension : Int) (channelFirst : Bool) (s : State) : Host.Outcome State Fault Refusal :=
  .next (s.sampled .ropeTension (sampleIn 0 30000 tension) fun s => s.takeTension tension channelFirst)

/-- DATUM_SENSOR_SAMPLE (R44, R52, R53). -/
def execDatumSensorSample (on : Bool) (s : State) : Host.Outcome State Fault Refusal :=
  .next (s.sampled .datum true fun s => s.takeDatum on)

/-- TOP_STOP_SAMPLE (R44, R87, R88, R169). -/
def execTopStopSample (on : Bool) (s : State) : Host.Outcome State Fault Refusal :=
  .next (s.sampled .topStop true fun s => s.takeTopStop on)

/-- SLED_POSITION_SAMPLE (R50, R90, R95). -/
def execSledPositionSample (position : Int) (s : State) : Host.Outcome State Fault Refusal :=
  .next (s.sampled .sled (s.sledValid position) fun s => s.takeSled position)

/-- ROTARY_ANGLE_SAMPLE (R26, R31, R36, R99, R135, R168, R173, R175). -/
def execRotaryAngleSample (angle : Int) (s : State) : Host.Outcome State Fault Refusal :=
  .next (s.sampled .rotaryAngle true fun s => s.takeAngle angle)

/-- ROTARY_SPEED_SAMPLE (R127, R135). -/
def execRotarySpeedSample (speed : Int) (s : State) : Host.Outcome State Fault Refusal :=
  .next (s.sampled .rotarySpeed (sampleIn (-999) 999 speed) fun s => s.takeSpeed speed)

/-- ROTARY_PRESSURE_SAMPLE (R42, R25, R30, R31, R126, R135). -/
def execRotaryPressureSample (port : RotaryPort) (pressure : Int) (s : State) : Host.Outcome State Fault Refusal :=
  .next (s.sampled (rotaryInput port) (sampleIn 0 4500 pressure) fun s => s.takeRotaryPressure port pressure)

/-- CROWD_PRESSURE_SAMPLE (R43, R20, R126). -/
def execCrowdPressureSample (port : CrowdPort) (pressure : Int) (s : State) : Host.Outcome State Fault Refusal :=
  .next (s.sampled (crowdInput port) (sampleIn 0 4500 pressure) fun s => s.takeCrowdPressure port pressure)

/-- GEAR_CONFIRM_SAMPLE (R133, R134). -/
def execGearConfirmSample (gear : Option Gear) (s : State) : Host.Outcome State Fault Refusal :=
  .next (s.sampled .gearConfirm true fun s => s.takeGear gear)

/-- SENSOR_TIMER_EXPIRY (R41). -/
def execSensorTimerExpiry (input : SensorInput) (s : State) : Host.Outcome State Fault Refusal :=
  .next (s.expireInput input)

end Sys2Proof.Machine
end

