-- ==== Sys2Proof/Machine/TimerRows.lean ====
section
/-! DEFINITION. The timers' expiries (R32, R33, R90, R95, R100, R101, R131, R134 to R136, R142, R143, R168, R169): one meaning for each
command. A timer that is not due has no effect (DESIGN CHOICE, log entry 4). -/
namespace Sys2Proof.Machine

/-- The shift timer has expired before a confirmation (R134). -/
def State.expireShift (s : State) : State :=
  if due s.axes.shiftTimer then
    let q := s.axes.queuedShift
    (((s.onAxes Axes.endShift).raise .gearShift).afterShift q).progress
  else s

/-- A brake timer has expired: BRAKED, the brake APPLIED (R131). -/
def State.expireBrake (x : Axis) (s : State) : State :=
  if due (s.axes.get x).brake then
    ((s.onAxes fun a => a.modify x fun c =>
      { c with mode := .braked, brakeApplied := true, brake := none, demand := 0 }).settle).progress
  else s

/-- The stall timer has expired: the stall is reported (R96, R135), also where ROTATE_CW or a cut has taken the setpoint from
clockwise since the last test (DESIGN CHOICE, log entry 53). -/
def State.expireStall (s : State) : State :=
  if due s.axes.stallTimer then (s.onAxes fun a => { a with stallTimer := none }).takeStall else s

/-- The no-advance window is full (R136). -/
def State.expireWindow (s : State) : State :=
  if s.windowDue then (s.raise .noAdvance).restartWindow s.toolDepth else s

/-- The seat settle time has expired (R32). -/
def State.expireSeatSettle (s : State) : State :=
  if due s.kelly.seatSettle then (s.onKelly fun m => { m with seatSettle := none }).trigger .settle else s

/-- The release settle time has expired: a waiting ENGAGE makes its start checks (R23, R33). -/
def State.expireReleaseSettle (s : State) : State :=
  if due s.kelly.releaseSettle then (s.onKelly fun m => { m with releaseSettle := none }).endSettleWait else s

/-- The release dwell has expired: TOB is tested, and the unseating rotation begins or fails (R29, R95). The test comes before the boundary of
an inhibited stroke (R79; DESIGN CHOICE, log entry 50). -/
def State.expireReleaseDwell (s : State) : State :=
  if s.strokeDue Stroke.releaseDwell then
    let s := s.onStroke fun t => { t with releaseDwell := none }
    if s.kelly.tob then (s.boundary State.beginUnseating).progress else s.raise .unseatFailed
  else s

/-- The sled watch has expired: TIMEOUT (R90, R172), with a normal stop at the ending (DESIGN CHOICE, log entry 46). -/
def State.expireSledWatch (s : State) : State :=
  if s.strokeDue Stroke.sledWatch then
    ((s.onStroke fun t => ({ t with sledWatch := none }).decideOutcome .timeout none).closeStroke.stopStroke).progress
  else s

/-- The rotation time limit of a SPIN has expired: TIMEOUT while the outcome is open (R100). -/
def State.expireRotationLimit (s : State) : State :=
  if s.strokeDue Stroke.rotationLimit then
    let s := s.onStroke fun t => { t with rotationLimit := none }
    if s.moving.isSome then (s.endMotion .timeout none).progress else s
  else s

/-- The dwell time has expired: DONE (R101). -/
def State.expireDwell (s : State) : State :=
  if s.strokeDue Stroke.dwell then ((s.onStroke fun t => { t with dwell := none }).endMotion .done none).progress else s

/-- The unseat watch has expired: the creep stops and SURVEY_FAILED is raised (R168). -/
def State.expireUnseatWatch (s : State) : State :=
  if s.strokeDue Stroke.unseatWatch then
    ((s.onStroke fun t => { t with unseatWatch := none }).phaseRequest .rotary .brake).raise .surveyFailed
  else s

/-- The stuck watch has expired: the winch stops and SURVEY_FAILED is raised (R169). The SURVEY has failed and stays in RAISE with no phase left to
run: no NEST follows, and what meets it next ends it (R171); that no boundary and no further stuck watch follows either is log entry 75
(DESIGN CHOICE). -/
def State.expireStuckWatch (s : State) : State :=
  if s.strokeDue Stroke.stuckWatch then
    ((s.onStroke fun t => { t with stuckCount := none }).phaseRequest .hoist .brake).closeStroke.raise .surveyFailed
  else s

/-- The freshness timer has expired (R142). -/
def State.expireFreshness (s : State) : State :=
  if due s.env.freshTimer then
    let was := s.env.freshness
    let s : State := { s with env := { s.env with freshTimer := none } }
    if was = .fresh then
      ((({ s with env := { s.env with freshness := .stale } } : State).setFlagsAll flagEnvelopeStale).trigger .envelope)
    else s
  else s

/-- The loss timer has expired (R143). -/
def State.expireLoss (s : State) : State :=
  if s.lossDue then
    ({ s with env := { s.env with lossTimer := none, freshness := .lost } } : State).raiseLoss s.ctl.mode
  else s

/-- SHIFT_TIMER_EXPIRY (R134). -/
def execShiftTimerExpiry (s : State) : Host.Outcome State Fault Refusal :=
  .next s.expireShift

/-- BRAKE_TIMER_EXPIRY (R131). -/
def execBrakeTimerExpiry (a : Axis) (s : State) : Host.Outcome State Fault Refusal :=
  .next (s.expireBrake a)

/-- STALL_TIMER_EXPIRY (R135). -/
def execStallTimerExpiry (s : State) : Host.Outcome State Fault Refusal :=
  .next s.expireStall

/-- NO_ADVANCE_WINDOW_EXPIRY (R136). -/
def execNoAdvanceWindowExpiry (s : State) : Host.Outcome State Fault Refusal :=
  .next s.expireWindow

/-- SEAT_SETTLE_EXPIRY (R32). -/
def execSeatSettleExpiry (s : State) : Host.Outcome State Fault Refusal :=
  .next s.expireSeatSettle

/-- RELEASE_SETTLE_EXPIRY (R33). -/
def execReleaseSettleExpiry (s : State) : Host.Outcome State Fault Refusal :=
  .next s.expireReleaseSettle

/-- RELEASE_DWELL_EXPIRY (R95). -/
def execReleaseDwellExpiry (s : State) : Host.Outcome State Fault Refusal :=
  .next s.expireReleaseDwell

/-- SLED_WATCH_EXPIRY (R90). -/
def execSledWatchExpiry (s : State) : Host.Outcome State Fault Refusal :=
  .next s.expireSledWatch

/-- ROTATION_TIME_LIMIT_EXPIRY (R100). -/
def execRotationTimeLimitExpiry (s : State) : Host.Outcome State Fault Refusal :=
  .next s.expireRotationLimit

/-- DWELL_TIME_EXPIRY (R101). -/
def execDwellTimeExpiry (s : State) : Host.Outcome State Fault Refusal :=
  .next s.expireDwell

/-- UNSEAT_WATCH_EXPIRY (R168). -/
def execUnseatWatchExpiry (s : State) : Host.Outcome State Fault Refusal :=
  .next s.expireUnseatWatch

/-- STUCK_WATCH_EXPIRY (R169). -/
def execStuckWatchExpiry (s : State) : Host.Outcome State Fault Refusal :=
  .next s.expireStuckWatch

/-- FRESHNESS_TIMER_EXPIRY (R142). -/
def execFreshnessTimerExpiry (s : State) : Host.Outcome State Fault Refusal :=
  .next s.expireFreshness

/-- LOSS_TIMER_EXPIRY (R143). -/
def execLossTimerExpiry (s : State) : Host.Outcome State Fault Refusal :=
  .next s.expireLoss

end Sys2Proof.Machine
end

