-- ==== Sys2Proof/Machine/WriteRows.lean ====
section
/-! DEFINITION. The taking of a READ or of a write-type request (R2, R8, R15, R22, R56, R57, R65, R146, R151, R177, R182): one meaning for each command. -/
namespace Sys2Proof.Machine

/-- Checks 3 and 4 of R2, and the storing: `fits` adds R8's condition on a station's index. -/
def State.writeProfile (l : Link) (q : Request) (fits : Bool) (s : State) : State :=
  match q.field with
  | none => s.refuse l q .noObject
  | some f =>
    if s.ctl.mode ≠ .config || s.profile.committed then s.refuse l q .state
    else if !(fits && (profileRange f).any fun r => inRange r q.value) then s.refuse l q .range
    else ({ s with profile := s.profile.store f q.value } : State).answer l q .ok q.value

/-- The station a request names lies below its interface's present station count (R8). -/
def State.stationFits (q : Request) (s : State) : Bool :=
  match q.field with
  | some (.station i j) =>
    match s.profile.interfaces[i].count with
    | some n => decide ((j.val : Int) < n)
    | none => false
  | _ => false

/-- The clamped value of a slurry field (R15). -/
def slurryClamp (k : Fin 2) (v : Int) : Int := if k = 0 then clampTo 1000 1400 v else clampTo (-5000) 30000 v

/-- An accepted slurry write: clamped, stored, echoed, and a recomputation trigger (R15, R105). -/
def State.writeSlurry (l : Link) (q : Request) (s : State) : State :=
  match q.field with
  | some (.slurry k) =>
    let v := slurryClamp k q.value
    let x : Slurry := if k = 0 then { s.slurry with density := v } else { s.slurry with level := v }
    (({ s with slurry := x } : State).answer l q .ok v).trigger .slurry
  | _ => s.refuse l q .noObject

/-- Change a mark and answer with a value. -/
def State.changeMark (l : Link) (q : Request) (k : Fin 8) (m : Mark) (s : State) : State :=
  ({ s with marks := s.marks.set k m } : State).answer l q .ok q.value

/-- A mark's depth: stored, and the mark ARMED (R56, R57). -/
def State.writeMarkDepth (l : Link) (q : Request) (s : State) : State :=
  match q.field with
  | some (.mark k _) =>
    if inRange (-25000, 150000) q.value then s.changeMark l q k { s.marks[k] with depth := q.value, state := .armed }
    else s.refuse l q .range
  | _ => s.refuse l q .noObject

/-- A mark's disarm field: the mark UNARMED (R56, R57). -/
def State.writeMarkDisarm (l : Link) (q : Request) (s : State) : State :=
  match q.field with
  | some (.mark k _) => s.changeMark l q k { s.marks[k] with state := .unarmed }
  | _ => s.refuse l q .noObject

/-- A mark's direction or action: that field alone (R56). -/
def State.writeMarkField (l : Link) (q : Request) (s : State) : State :=
  match q.field with
  | some (.mark k .direction) =>
    match nameAt directionList q.value with
    | some x => s.changeMark l q k { s.marks[k] with direction := x }
    | none => s.refuse l q .range
  | some (.mark k .action) =>
    match nameAt actionList q.value with
    | some x => s.changeMark l q k { s.marks[k] with action := x }
    | none => s.refuse l q .range
  | _ => s.refuse l q .noObject

/-- Checks 3 to 5 of R65 on the entry a request names, and the storing. -/
def State.writeOrder (l : Link) (q : Request) (s : State) : State :=
  match q.field with
  | some (.order e f) =>
    let x := s.ring[e]
    if x.check f q.value = .ok then
      ({ s with ring := s.ring.set e { x with order := x.order.store f q.value } } : State).answer l q .ok q.value
    else s.refuse l q (x.check f q.value)
  | _ => s.refuse l q .noObject

/-- The rank of a reaction class (R149). -/
def ReactionClass.rank : ReactionClass → Nat
  | .announce => 0
  | .hold => 1
  | .halt => 2
  | .cut => 3

/-- The higher of two classes (R151). -/
def ReactionClass.higher (a b : ReactionClass) : ReactionClass := if a.rank < b.rank then b else a

/-- Change a descriptor. -/
def Faults.setDescriptor (f : Faults) (v : Fin 22) (d : Descriptor) : Faults := { f with descriptors := f.descriptors.set v d }

/-- A class write: the higher of the written class and the minimum is stored and answered (R151). -/
def State.writeClass (l : Link) (q : Request) (s : State) : State :=
  match q.field with
  | some (.cls v) =>
    if s.faults.committed then s.refuse l q .state
    else
      match nameAt classList q.value with
      | none => s.refuse l q .range
      | some c =>
        let c := c.higher (minClass (vectorOfNat v.val))
        (s.onFaults fun f => f.setDescriptor v { f.descriptors[v] with cls := c }).answer l q .ok (codeIn classList c)
  | _ => s.refuse l q .noObject

/-- The table length, a present flag or a notify set: checks 3 and 4 of R151, and the storing. -/
def State.writeTable (l : Link) (q : Request) (s : State) : State :=
  let v := q.value
  if s.faults.committed then s.refuse l q .state
  else
    match q.field with
    | some .tableLength =>
      if inRange (1, 22) v then (s.onFaults fun f => { f with length := v.toNat }).answer l q .ok v else s.refuse l q .range
    | some (.present k) =>
      if inRange (0, 1) v then
        (s.onFaults fun f => f.setDescriptor k { f.descriptors[k] with present := v = 1 }).answer l q .ok v
      else s.refuse l q .range
    | some (.notify k) =>
      if inRange (0, 7) v then
        (s.onFaults fun f => f.setDescriptor k { f.descriptors[k] with notify := BitVec.ofInt 3 v }).answer l q .ok v
      else s.refuse l q .range
    | _ => s.refuse l q .noObject

/-- A request on the link's own inhibit mask: check 3 of R146, the change, the answer, and the union handed on (R147). -/
def State.changeMask (l : Link) (q : Request) (f : Mask → Mask → Mask) (s : State) : State :=
  if inRange (0, 65535) q.value then
    let old := s.union
    let s : State := { s with masks := s.masks.modify l fun m => f m (BitVec.ofInt 16 q.value) }
    (s.answer l q .ok ((s.masks.get l).toNat : Int)).handOnUnion old
  else s.refuse l q .range

/-- A request on the link's own notice flags (R182) (DEDUCED, log entry 33). -/
def State.changeFlags (l : Link) (q : Request) (f : FlagSet → FlagSet → FlagSet) (s : State) : State :=
  if inRange (0, 4095) q.value then
    let s := s.onLink l fun c => { c with flags := f c.flags (BitVec.ofInt 12 q.value) }
    s.answer l q .ok ((s.links.get l).flags.toNat : Int)
  else s.refuse l q .range

/-- A request on the link's own enable set (R182) (DEDUCED, log entry 33). -/
def State.changeEnables (l : Link) (q : Request) (f : FlagSet → FlagSet → FlagSet) (s : State) : State :=
  if inRange (0, 4095) q.value then
    let s := s.onLink l fun c => { c with enables := f c.enables (BitVec.ofInt 12 q.value) }
    s.answer l q .ok ((s.links.get l).enables.toNat : Int)
  else s.refuse l q .range

/-- REGISTER_WRITE_OTHER (R177): a READ is answered with the field's value; every other request that has no command of its own is
refused by the checks of R177. -/
def execRegisterWriteOther (l : Link) (s : State) : Host.Outcome State Fault Refusal :=
  .next (s.taking l .other fun q s => if q.kind = kindRead then s.answerRead l q else s.refuse l q .access)

/-- PROFILE_FIELD_WRITE (R2). -/
def execProfileFieldWrite (l : Link) (s : State) : Host.Outcome State Fault Refusal :=
  .next (s.taking l .profileField fun q s => s.writeProfile l q true)

/-- STATION_COUNT_WRITE (R8). -/
def execStationCountWrite (l : Link) (s : State) : Host.Outcome State Fault Refusal :=
  .next (s.taking l .stationCount fun q s => s.writeProfile l q true)

/-- STATION_WRITE (R8). -/
def execStationWrite (l : Link) (s : State) : Host.Outcome State Fault Refusal :=
  .next (s.taking l .station fun q s => s.writeProfile l q (s.stationFits q))

/-- SLURRY_WRITE (R15). -/
def execSlurryWrite (l : Link) (s : State) : Host.Outcome State Fault Refusal :=
  .next (s.taking l .slurry fun q s => s.writeSlurry l q)

/-- MARK_DEPTH_WRITE (R57). -/
def execMarkDepthWrite (l : Link) (s : State) : Host.Outcome State Fault Refusal :=
  .next (s.taking l .markDepth fun q s => s.writeMarkDepth l q)

/-- MARK_DISARM_WRITE (R57). -/
def execMarkDisarmWrite (l : Link) (s : State) : Host.Outcome State Fault Refusal :=
  .next (s.taking l .markDisarm fun q s => s.writeMarkDisarm l q)

/-- MARK_FIELD_WRITE (R56). -/
def execMarkFieldWrite (l : Link) (s : State) : Host.Outcome State Fault Refusal :=
  .next (s.taking l .markField fun q s => s.writeMarkField l q)

/-- ORDER_FIELD_WRITE (R65). -/
def execOrderFieldWrite (l : Link) (s : State) : Host.Outcome State Fault Refusal :=
  .next (s.taking l .orderField fun q s => s.writeOrder l q)

/-- KIND_WRITE (R65). -/
def execKindWrite (l : Link) (s : State) : Host.Outcome State Fault Refusal :=
  .next (s.taking l .kind fun q s => s.writeOrder l q)

/-- BORE_MODE_WRITE (R65). -/
def execBoreModeWrite (l : Link) (s : State) : Host.Outcome State Fault Refusal :=
  .next (s.taking l .boreMode fun q s => s.writeOrder l q)

/-- PLAN_WRITE (R22, R65). -/
def execPlanWrite (l : Link) (s : State) : Host.Outcome State Fault Refusal :=
  .next (s.taking l .plan fun q s => s.writeOrder l q)

/-- REACTION_CLASS_WRITE (R151). -/
def execReactionClassWrite (l : Link) (s : State) : Host.Outcome State Fault Refusal :=
  .next (s.taking l .reactionClass fun q s => s.writeClass l q)

/-- REACTION_TABLE_WRITE (R151). -/
def execReactionTableWrite (l : Link) (s : State) : Host.Outcome State Fault Refusal :=
  .next (s.taking l .reactionTable fun q s => s.writeTable l q)

/-- INHIBIT_WRITE (R146, R147). -/
def execInhibitWrite (l : Link) (s : State) : Host.Outcome State Fault Refusal :=
  .next (s.taking l .inhibitWrite fun q s => s.changeMask l q applyWrite)

/-- INHIBIT_SET (R146, R147). -/
def execInhibitSet (l : Link) (s : State) : Host.Outcome State Fault Refusal :=
  .next (s.taking l .inhibitSet fun q s => s.changeMask l q applySet)

/-- INHIBIT_CLEAR (R146, R147). -/
def execInhibitClear (l : Link) (s : State) : Host.Outcome State Fault Refusal :=
  .next (s.taking l .inhibitClear fun q s => s.changeMask l q applyClear)

/-- INHIBIT_TOGGLE (R146, R147). -/
def execInhibitToggle (l : Link) (s : State) : Host.Outcome State Fault Refusal :=
  .next (s.taking l .inhibitToggle fun q s => s.changeMask l q applyToggle)

/-- NOTICE_FLAGS_WRITE (R182): every flag that is clear in the value is cleared. -/
def execNoticeFlagsWrite (l : Link) (s : State) : Host.Outcome State Fault Refusal :=
  .next (s.taking l .flagsWrite fun q s => s.changeFlags l q fun old v => old &&& v)

/-- NOTICE_FLAGS_CLEAR (R182). -/
def execNoticeFlagsClear (l : Link) (s : State) : Host.Outcome State Fault Refusal :=
  .next (s.taking l .flagsClear fun q s => s.changeFlags l q applyClear)

/-- NOTICE_ENABLES_WRITE (R182). -/
def execNoticeEnablesWrite (l : Link) (s : State) : Host.Outcome State Fault Refusal :=
  .next (s.taking l .enablesWrite fun q s => s.changeEnables l q applyWrite)

/-- NOTICE_ENABLES_SET (R182). -/
def execNoticeEnablesSet (l : Link) (s : State) : Host.Outcome State Fault Refusal :=
  .next (s.taking l .enablesSet fun q s => s.changeEnables l q applySet)

/-- NOTICE_ENABLES_CLEAR (R182). -/
def execNoticeEnablesClear (l : Link) (s : State) : Host.Outcome State Fault Refusal :=
  .next (s.taking l .enablesClear fun q s => s.changeEnables l q applyClear)

/-- NOTICE_ENABLES_TOGGLE (R182). -/
def execNoticeEnablesToggle (l : Link) (s : State) : Host.Outcome State Fault Refusal :=
  .next (s.taking l .enablesToggle fun q s => s.changeEnables l q applyToggle)

end Sys2Proof.Machine
end

