-- ==== Sys2Proof/Machine/Dispatch.lean ====
section
/-! DEFINITION. The meaning of each command, by its constructor. -/
namespace Sys2Proof.Machine

/-- The effect of a command on everything but the queue. -/
def exec (i : Instr) (s : State) : Host.Outcome State Fault Refusal :=
  match i with
  | .powerOn => Sys2Proof.Machine.execPowerOn s
  | .resetInputChange asserted => Sys2Proof.Machine.execResetInputChange asserted s
  | .requestArrival l f => Sys2Proof.Machine.execRequestArrival l f s
  | .envelopeFrame l f => Sys2Proof.Machine.execEnvelopeFrame l f s
  | .responseSent l => Sys2Proof.Machine.execResponseSent l s
  | .noticeSent l => Sys2Proof.Machine.execNoticeSent l s
  | .busOff l => Sys2Proof.Machine.execBusOff l s
  | .linkReturn l => Sys2Proof.Machine.execLinkReturn l s
  | .registerWriteOther l => Sys2Proof.Machine.execRegisterWriteOther l s
  | .profileFieldWrite l => Sys2Proof.Machine.execProfileFieldWrite l s
  | .stationCountWrite l => Sys2Proof.Machine.execStationCountWrite l s
  | .stationWrite l => Sys2Proof.Machine.execStationWrite l s
  | .slurryWrite l => Sys2Proof.Machine.execSlurryWrite l s
  | .markDepthWrite l => Sys2Proof.Machine.execMarkDepthWrite l s
  | .markDisarmWrite l => Sys2Proof.Machine.execMarkDisarmWrite l s
  | .markFieldWrite l => Sys2Proof.Machine.execMarkFieldWrite l s
  | .orderFieldWrite l => Sys2Proof.Machine.execOrderFieldWrite l s
  | .kindWrite l => Sys2Proof.Machine.execKindWrite l s
  | .boreModeWrite l => Sys2Proof.Machine.execBoreModeWrite l s
  | .planWrite l => Sys2Proof.Machine.execPlanWrite l s
  | .reactionClassWrite l => Sys2Proof.Machine.execReactionClassWrite l s
  | .reactionTableWrite l => Sys2Proof.Machine.execReactionTableWrite l s
  | .inhibitWrite l => Sys2Proof.Machine.execInhibitWrite l s
  | .inhibitSet l => Sys2Proof.Machine.execInhibitSet l s
  | .inhibitClear l => Sys2Proof.Machine.execInhibitClear l s
  | .inhibitToggle l => Sys2Proof.Machine.execInhibitToggle l s
  | .noticeFlagsWrite l => Sys2Proof.Machine.execNoticeFlagsWrite l s
  | .noticeFlagsClear l => Sys2Proof.Machine.execNoticeFlagsClear l s
  | .noticeEnablesWrite l => Sys2Proof.Machine.execNoticeEnablesWrite l s
  | .noticeEnablesSet l => Sys2Proof.Machine.execNoticeEnablesSet l s
  | .noticeEnablesClear l => Sys2Proof.Machine.execNoticeEnablesClear l s
  | .noticeEnablesToggle l => Sys2Proof.Machine.execNoticeEnablesToggle l s
  | .start l => Sys2Proof.Machine.execStart l s
  | .pause l => Sys2Proof.Machine.execPause l s
  | .resume l => Sys2Proof.Machine.execResume l s
  | .abort l => Sys2Proof.Machine.execAbort l s
  | .flush l => Sys2Proof.Machine.execFlush l s
  | .handover l => Sys2Proof.Machine.execHandover l s
  | .unpark l => Sys2Proof.Machine.execUnpark l s
  | .commitReactions l => Sys2Proof.Machine.execCommitReactions l s
  | .restore l => Sys2Proof.Machine.execRestore l s
  | .unitReset l => Sys2Proof.Machine.execUnitReset l s
  | .clearLockoutRecord l => Sys2Proof.Machine.execClearLockoutRecord l s
  | .commitProfile l => Sys2Proof.Machine.execCommitProfile l s
  | .reconfigure l => Sys2Proof.Machine.execReconfigure l s
  | .ropePayoutSample count => Sys2Proof.Machine.execRopePayoutSample count s
  | .ropeTensionSample tension channelFirst => Sys2Proof.Machine.execRopeTensionSample tension channelFirst s
  | .datumSensorSample on => Sys2Proof.Machine.execDatumSensorSample on s
  | .topStopSample on => Sys2Proof.Machine.execTopStopSample on s
  | .sledPositionSample position => Sys2Proof.Machine.execSledPositionSample position s
  | .rotaryAngleSample angle => Sys2Proof.Machine.execRotaryAngleSample angle s
  | .rotarySpeedSample speed => Sys2Proof.Machine.execRotarySpeedSample speed s
  | .rotaryPressureSample port pressure => Sys2Proof.Machine.execRotaryPressureSample port pressure s
  | .crowdPressureSample port pressure => Sys2Proof.Machine.execCrowdPressureSample port pressure s
  | .gearConfirmSample gear => Sys2Proof.Machine.execGearConfirmSample gear s
  | .sensorTimerExpiry input => Sys2Proof.Machine.execSensorTimerExpiry input s
  | .strokeCompletion => Sys2Proof.Machine.execStrokeCompletion s
  | .depthChangeAtSequencer => Sys2Proof.Machine.execDepthChangeAtSequencer s
  | .tobChangeAtSequencer => Sys2Proof.Machine.execTobChangeAtSequencer s
  | .markCrossingTest => Sys2Proof.Machine.execMarkCrossingTest s
  | .limitRecomputation => Sys2Proof.Machine.execLimitRecomputation s
  | .limitSetAtChannels => Sys2Proof.Machine.execLimitSetAtChannels s
  | .limitSetAtModel => Sys2Proof.Machine.execLimitSetAtModel s
  | .limitSetAtSequencer => Sys2Proof.Machine.execLimitSetAtSequencer s
  | .unionAtChannels => Sys2Proof.Machine.execUnionAtChannels s
  | .unionAtSequencer => Sys2Proof.Machine.execUnionAtSequencer s
  | .modeChangeAtSequencer => Sys2Proof.Machine.execModeChangeAtSequencer s
  | .modeChangeAtEnvelope => Sys2Proof.Machine.execModeChangeAtEnvelope s
  | .modeChangeAtSupervision => Sys2Proof.Machine.execModeChangeAtSupervision s
  | .modeChangeAtLines => Sys2Proof.Machine.execModeChangeAtLines s
  | .faultRaise v => Sys2Proof.Machine.execFaultRaise v s
  | .lockoutAtModeController => Sys2Proof.Machine.execLockoutAtModeController s
  | .reactionAtSequencer => Sys2Proof.Machine.execReactionAtSequencer s
  | .normalStop => Sys2Proof.Machine.execNormalStop s
  | .fastStop => Sys2Proof.Machine.execFastStop s
  | .cut => Sys2Proof.Machine.execCut s
  | .reactionCompletion => Sys2Proof.Machine.execReactionCompletion s
  | .reactionEndedAtChannels => Sys2Proof.Machine.execReactionEndedAtChannels s
  | .setpointReachesRequest a => Sys2Proof.Machine.execSetpointReachesRequest a s
  | .gearShiftBegin => Sys2Proof.Machine.execGearShiftBegin s
  | .shiftTimerExpiry => Sys2Proof.Machine.execShiftTimerExpiry s
  | .brakeTimerExpiry a => Sys2Proof.Machine.execBrakeTimerExpiry a s
  | .stallTimerExpiry => Sys2Proof.Machine.execStallTimerExpiry s
  | .noAdvanceWindowExpiry => Sys2Proof.Machine.execNoAdvanceWindowExpiry s
  | .seatSettleExpiry => Sys2Proof.Machine.execSeatSettleExpiry s
  | .releaseSettleExpiry => Sys2Proof.Machine.execReleaseSettleExpiry s
  | .releaseDwellExpiry => Sys2Proof.Machine.execReleaseDwellExpiry s
  | .sledWatchExpiry => Sys2Proof.Machine.execSledWatchExpiry s
  | .rotationTimeLimitExpiry => Sys2Proof.Machine.execRotationTimeLimitExpiry s
  | .dwellTimeExpiry => Sys2Proof.Machine.execDwellTimeExpiry s
  | .unseatWatchExpiry => Sys2Proof.Machine.execUnseatWatchExpiry s
  | .stuckWatchExpiry => Sys2Proof.Machine.execStuckWatchExpiry s
  | .freshnessTimerExpiry => Sys2Proof.Machine.execFreshnessTimerExpiry s
  | .lossTimerExpiry => Sys2Proof.Machine.execLossTimerExpiry s

end Sys2Proof.Machine
end

