-- ==== Sys2Proof/Machine/Step.lean ====
section
/-! DEFINITION. One step of the KD36: the front command of the queue, or the block's own time. -/
namespace Sys2Proof.Machine

/-- One step. With a command waiting, the step is that command on the state with the queue's rest (DESIGN CHOICE, log entry 1). On an empty
queue the unit acts by itself (log entries 2 and 3, DESIGN CHOICE): one of the commands that are due takes place, chosen by a free value
where more than one may come next; and when none is due, a millisecond may pass. -/
def step (s : State) : Host.Outcome State Fault Refusal :=
  match s.pending with
  | c :: rest => exec c { s with pending := rest }
  | [] =>
    match s.idleCommand with
    | some i => exec i s.chosen
    | none => .next s.chosen.tick

/-- `s` with the command that the word spells at the front of its queue; no row of the table gives bits, so no
word spells a command and `s` is unchanged. -/
def State.withFetchWord (s : State) (nbits w : Nat) : State :=
  match decodeTableWord nbits w with
  | some i => { s with pending := i :: s.pending }
  | none => s

end Sys2Proof.Machine
end

