-- ==== Sys2Proof/Safety.lean ====
section
/-! DEFINITION. The terms of the claims: a request that waits, an answered request, what a unit reset leaves, what taking an entry
leaves, what the object map holds and a READ finds, and the invariants that every step keeps. -/
namespace Sys2Proof.Machine

/-! ### Requests and answers -/

/-- The link is UP and `q` is the oldest request it holds (R178). -/
def State.waits (l : Link) (q : Request) (rest : List Request) (s : State) : Prop :=
  (s.links.get l).up = true ∧ (s.links.get l).buffer = q :: rest

/-- The request is of a kind, on an object and a sub-index (R176). -/
def Request.names (q : Request) (kind object sub : Nat) : Prop := q.kind = kind ∧ q.object = object ∧ q.sub = sub

/-- The request has left the buffer and its response has joined the transmit queue (R178, R183). -/
def LinkCtl.answered (q : Request) (rest : List Request) (r : Result) (v : Int) (c : LinkCtl) : LinkCtl :=
  { c with buffer := rest, queue := c.queue ++ [.response ⟨q.tag, r, q.object, q.sub, v, false⟩] }

/-- The state whose only change is that the oldest request of a link has been answered. -/
def State.answered (l : Link) (q : Request) (rest : List Request) (r : Result) (v : Int) (s : State) : State :=
  { s with links := s.links.modify l (LinkCtl.answered q rest r v) }

/-- The demand at a sub-index of object 0x7F00 waits (R181). -/
def State.demands (l : Link) (sub : Nat) (q : Request) (rest : List Request) (s : State) : Prop :=
  s.waits l q rest ∧ q.names 5 0x7F00 sub

/-- An order field other than the kind, the bore mode and the plan: one whose write changes that field alone (R65). -/
def OrderField.isPlain : OrderField → Bool
  | .kind => false
  | .boreMode => false
  | .planLength => false
  | .pairIface _ => false
  | .pairStation _ => false
  | _ => true

/-- The sub-index of a link's own mask or flags (R146, R182). -/
def ownSub : Link → Nat
  | .console => 1
  | .stability => 2
  | .recorder => 3

/-- The request is answered with a new mask of the link, and a changed union is handed on (R146, R147). -/
def State.maskBecomes (l : Link) (q : Request) (rest : List Request) (m : Mask) (s : State) : State :=
  let masks := s.masks.modify l fun _ => m
  let u : Mask := masks.console ||| masks.stability ||| masks.recorder
  { s.answered l q rest .ok (m.toNat : Int) with
    masks := masks
    mail := if u = s.union then s.mail
      else { s.mail with unionAxes := s.mail.unionAxes ++ [u], unionSeq := s.mail.unionSeq ++ [u] } }

/-- The request is answered with new notice flags of the link (R182). -/
def State.flagsBecome (l : Link) (q : Request) (rest : List Request) (f : FlagSet) (s : State) : State :=
  { s with links := s.links.modify l fun c => { c.answered q rest .ok (f.toNat : Int) with flags := f } }

/-- The request is answered with a new enable set of the link (R182). -/
def State.enablesBecome (l : Link) (q : Request) (rest : List Request) (f : FlagSet) (s : State) : State :=
  { s with links := s.links.modify l fun c => { c.answered q rest .ok (f.toNat : Int) with enables := f } }

/-! ### What a unit reset leaves (R166 and the reset tables of every chapter) -/

/-- The entries after a unit reset (R80). -/
def State.EntriesReset (s t : State) : Prop :=
  (∀ k : Fin 32, t.ring[k].owner = .console ∧ t.ring[k].order = s.ring[k].order) ∧
  (∀ x, s.seq.stroke = some x →
    t.ring[x.index].completion = some ⟨.reset, x.reason, some { x.figures with endDepth := s.toolDepth }⟩) ∧
  (∀ k : Fin 32, (∀ x, s.seq.stroke = some x → x.index ≠ k) →
    t.ring[k].completion = if s.ring[k].owner = .unit then some ⟨.notRun, none, none⟩ else s.ring[k].completion)

/-- A link controller after a unit reset (R185). -/
def LinkCtl.ResetTo (c d : LinkCtl) : Prop :=
  d.buffer = [] ∧ d.flags = 512 ∧ d.enables = c.enables ∧ d.count = c.count ∧ d.up = c.up ∧ d.idle = c.idle ∧
  d.queue = if c.up = true ∧ c.enables &&& 512 ≠ 0 then [.notice] else []

/-- `t` is `s` after a unit reset. -/
def State.UnitResetTo (s t : State) : Prop :=
  t.profile = s.profile ∧ t.slurry = s.slurry ∧ t.marks = s.marks ∧ t.kelly = Kelly.reset ∧
  t.seq = ⟨.stopped, 0, none⟩ ∧ s.EntriesReset t ∧
  t.limits = ⟨LimitSet.unknown, s.limits.dry, false, none, false⟩ ∧
  t.axes = { Axes.reset with gear := match s.axes.shift with
    | .shifting _ => none
    | _ => s.axes.gear } ∧
  t.env = ⟨s.env.record, .stale, some 300, some 2000, false, false⟩ ∧ t.masks = ⟨0, 0, 0⟩ ∧
  t.faults = { s.faults with
    state := .clear, context := none, lastFault := none, lockoutLine := false
    pilotCut := !(s.profile.committed && s.faults.committed) } ∧
  t.ctl = ⟨if s.profile.committed && s.faults.committed then .surveyRequired else .config, none, .idle, false⟩ ∧
  t.sup = Supervision.clean (s.profile.committed && s.faults.committed) ∧
  ∀ l, (s.links.get l).ResetTo (t.links.get l)

/-! ### The commit conditions (R11) -/

/-- The machine record's conditions: every field present, R_top at least 500 mm above R_datum. -/
def Profile.MachineGood (p : Profile) : Prop :=
  (∀ x ∈ p.machine.toList, x ≠ none) ∧ fig p.machine.rTop + 500 ≤ fig p.machine.rDatum

/-- The kelly record's conditions: every field present, twice the seat tolerance below the seat angle. -/
def Profile.KellyGood (p : Profile) : Prop := (∀ x ∈ p.kelly.toList, x ≠ none) ∧ 2 * fig p.kelly.seatTol < fig p.kelly.seatAngle

/-- A section's conditions: every field present, its nested bottom below that of the section around it. -/
def Profile.SectionGood (p : Profile) (k : Fin 5) : Prop :=
  (∀ x ∈ p.sections[k].toList, x ≠ none) ∧
  ∀ j : Fin 5, j.val + 1 = k.val → fig p.sections[j].bottom < fig p.sections[k].bottom

/-- An interface's conditions: ratings, travel and count (1 to 8 as it is stored) present, the travel at most the length of its inner member, every station up to the
count present, within the travel, and at least 100 mm beyond the one before it. -/
def Profile.InterfaceGood (p : Profile) (k : Fin 5) : Prop :=
  let r := p.interfaces[k]
  r.travel ≠ none ∧ r.push ≠ none ∧ r.pull ≠ none ∧ r.count ≠ none ∧ 0 ≤ fig r.count ∧ fig r.count ≤ 8 ∧ fig r.travel ≤ fig p.sections[k].length ∧
  (∀ j : Fin 8, (j.val : Int) < fig r.count → ∃ x, r.stations[j] = some x ∧ 0 ≤ x ∧ x ≤ fig r.travel) ∧
  ∀ i j : Fin 8, i.val + 1 = j.val → (j.val : Int) < fig r.count → fig r.stations[i] + 100 ≤ fig r.stations[j]

/-- The tool record's condition: every field present. -/
def Profile.ToolGood (p : Profile) : Prop := ∀ x ∈ p.tool.toList, x ≠ none

/-! ### Samples -/

/-- No stroke in flight, no rotation and no re-seat check: nothing waits for an axis to come to rest. -/
def State.Quiet (s : State) : Prop := s.seq.stroke = none ∧ s.kelly.rotation = none ∧ s.ctl.reseat = .idle

/-- The stroke in flight does not run to NEST at the next event: it is met, has no phase left, or stands neither in an UNSEAT that has passed its
window nor in a RAISE that the top stop has stopped. -/
def State.NoNest (s : State) : Prop :=
  ∀ x, s.seq.stroke = some x → x.closed = true ∨ x.met = true ∨
    ((x.phase = .unseat → x.unseatPassed = false) ∧ (x.phase = .raise → x.raiseStopping = false))

/-- A sample may withdraw a known model by a watch of its own: the unit is PARKED, or a HANGING BORE keeps its window watch. -/
def State.Watched (s : State) : Bool := s.ctl.mode = .parked || s.seq.stroke.any (·.windowWatch)

/-- An input after a valid sample: its timer at 50 ms again and its fault gone (R41). -/
def Supervision.heard (i : SensorInput) (u : Supervision) : Supervision :=
  { u with inputs := u.inputs.set (inputIndex i) ⟨some 50, false⟩ }

/-- No input of the group is in fault (R41). -/
def State.groupClean (i : SensorInput) (s : State) : Prop :=
  ∀ j, groupVector j = groupVector i → s.sup.inputs[inputIndex j].fault = false

/-- An input put in fault: its group's vector is raised exactly when the group had none in fault, and the channels alone follow (R41). -/
def State.InputFaulted (i : SensorInput) (timer : Timer) (s t : State) : Prop :=
  t = { s with
    axes := t.axes, sup := { s.sup with inputs := s.sup.inputs.set (inputIndex i) ⟨timer, true⟩ }
    mail := t.mail } ∧
  (s.groupClean i → t.mail = { s.mail with raises := s.mail.raises ++ [⟨groupVector i, s.toolDepth, false⟩] }) ∧
  (¬ s.groupClean i → t.mail = s.mail)

/-- An extension `e` placed by the order rule from `s` to `t` while the model stays known: on a fully engaged chain no position moves. The
model stays known outside a rotation and a watch, on a fully engaged chain within 100 mm (R37, R47, R48). -/
def State.PlacedBy (s t : State) (e : Int) : Prop :=
  (s.kelly.rotation = none → s.Watched = false → (s.chainEngaged = true → magnitude e ≤ 100) → t.kelly.known = true) ∧
  (t.kelly.known = true → ∀ k,
    t.kelly.pos k = if s.chainEngaged = true then s.kelly.pos k else (s.kelly.share s.profile s.profile.members e).pos k)

/-- A tool load and a TOB as R20 and R21 form them from the map and the limit set of `u`, a tension and a crowd force. -/
def State.LoadBy (u : State) (tension force load : Option Int) (tob : Bool) : Prop :=
  (∀ w x, u.kelly.known = true → u.limits.set.wTotal = some w → tension = some x →
    load = (if u.chainEngaged = true then force.map fun f => max 0 (f + w - x)
      else some (max 0 (w - u.limits.set.cumWeight u.engagedRun - x))) ∧
    (tob = true ↔ ∃ v, load = some v ∧ w ≤ 10 * v)) ∧
  (u.kelly.known = false ∨ u.limits.set.wTotal = none ∨ tension = none → load = none ∧ tob = false)

/-- The tool load and TOB of `t`, formed by R20 and R21 from the model and the limit set of `s` with a tension and a crowd force; a change
of TOB is handed to the sequencer. -/
def State.LoadFormed (s t : State) (tension force : Option Int) : Prop :=
  s.LoadBy tension force t.kelly.toolLoad t.kelly.tob ∧
  t.mail = { s.mail with tobSeq := if t.kelly.tob = s.kelly.tob then s.mail.tobSeq else s.mail.tobSeq ++ [t.kelly.tob] }

/-- The next sample decides no interrupted rotation (R35), finds no CROWD_DOWN that its unseating may follow (R29), and runs to no NEST: the map
of the interfaces changes by the sample's own rule alone. -/
def State.HoldsMap (s : State) : Prop :=
  s.NoNest ∧ (∀ r, s.kelly.rotation = some r → r.interrupted = false) ∧
  ∀ x, s.seq.stroke = some x → x.closed = true ∨ x.met = true ∨ x.phase ≠ .crowdDown

/-! ### Strokes and limits -/

/-- Nothing waits for an axis to come to rest, to a setpoint or to its brake: no rotation, no re-seat check, no relief turn, and a stroke in
flight, if there is one, has no phase left or stands in a phase that ends on another event. -/
def State.Steady (s : State) : Prop :=
  s.kelly.rotation = none ∧ s.ctl.reseat = .idle ∧ s.axes.relief = none ∧
  ∀ x, s.seq.stroke = some x →
    x.closed = true ∨ x.met = true ∨
      x.phase ∈ [Phase.run, .move, .settleWait, .rampUp, .advance, .releaseDwell, .wait, .sledUp] ∨
      (x.phase = .raise ∧ x.raiseStopping = false)

/-- `v` is the smallest of a value of each of the first n interfaces or sections. -/
def Smallest (n : Nat) (f : Fin 5 → Int) (v : Int) : Prop := (∀ k : Fin 5, k.val < n → v ≤ f k) ∧ ∃ k : Fin 5, k.val < n ∧ v = f k

/-- The end state a stroke completes with: an inhibited stroke ends HELD at least (R79). -/
def Stroke.endsIn (x : Stroke) : EndState := if x.inhibited = true ∧ x.endState = .running then .held else x.endState

/-- The order kinds a unit mode permits (R69, check 1). -/
def Permitted (m : UnitMode) (k : Kind) : Prop := m = .operating ∨ (m = .surveyRequired ∧ (k = .survey ∨ k = .sled ∨ k = .dwell))

/-- The reason of the first condition of a table that holds (R69). -/
def FirstHolds : List (Prop × Reason) → Reason → Prop
  | [], _ => False
  | (p, a) :: rest, r => (p ∧ r = a) ∨ (¬ p ∧ FirstHolds rest r)

/-- No condition of a table holds. -/
def NoneHolds : List (Prop × Reason) → Prop
  | [] => True
  | (p, _) :: rest => ¬ p ∧ NoneHolds rest

/-- The directions with their numbers (R146). -/
def directionNumbers : List (Direction × Nat) :=
  [(.crowdDown, 1), (.crowdUp, 2), (.rotateCw, 3), (.rotateCcw, 4), (.hoistUp, 5), (.hoistDown, 6), (.engage, 7), (.release, 8), (.spin, 9),
   (.boreLocked, 10), (.boreHanging, 11), (.sledMove, 12), (.gearShift, 13), (.descend, 14), (.survey, 15), (.park, 16)]

/-- Check 2 of R69 fails: the kind's own direction is held in the union, or GEAR_SHIFT is while the order needs a shift. -/
def State.Barred (o : Order) (s : State) : Prop :=
  (∃ d, o.ownDirection = some d ∧ holds s.union d = true) ∨
  ((o.kind = .bore ∨ o.kind = .spin) ∧ holds s.union .gearShift = true ∧ (s.axes.gear = none ∨ s.axes.gear ≠ o.gear))

/-- The sled window of a SLED (R89): its lower and its upper end. -/
def State.sledLow (s : State) : Int :=
  if s.kelly.known = true then max 0 (fig s.kelly.sled + s.kelly.pos 0 - s.profile.travel 0) else 0

def State.sledHigh (s : State) : Int :=
  if s.kelly.known = true then min (fig s.profile.machine.sledTravel) (fig s.kelly.sled + s.kelly.pos 0)
  else fig s.profile.machine.sledTravel

/-- The tables of a kind's own checks, in their order (R23, R29, R83, R167, R172). An absent W_total (log entry 47) and a figure that is
absent in no run (log entry 32) count as 0. -/
def State.ownChecks (o : Order) (s : State) : List (Prop × Reason) :=
  let unknown : Prop := s.kelly.known = false
  let notFree : Prop := ∃ k : Fin 5, k.val < s.profile.count ∧ (s.kelly.st k).isReleased = false
  let notLocked : Prop := s.chainEngaged = false
  match o.kind with
  | .descend => [(unknown, .modelUnknown), (notFree, .chain)]
  | .hoist => [(unknown, .modelUnknown), (notFree, .chain), (s.limits.set.hoistLine < fig s.limits.set.wTotal, .overweight)]
  | .sled => [(s.driveDepth = none, .modelUnknown),
      (∃ j : Fin 8, s.kelly.st 0 = .engaged j ∨ s.kelly.st 0 = .seating j ∨ s.kelly.st 0 = .unseating j, .chain)]
  | .engage => [(unknown, .modelUnknown), (s.kelly.tob = false, .notOnBottom), (s.planAligned o = false, .notAligned),
      (s.planOnly o = false, .planMismatch)]
  | .release => [(unknown, .modelUnknown), (s.kelly.tob = false, .notOnBottom),
      (∀ k : Fin 5, k.val < s.profile.count → (s.kelly.st k).isEngaged = false, .chain)]
  | .bore =>
    if o.boreMode = some .hanging then [(unknown, .modelUnknown),
      ((s.kelly.st 0).isEngaged = true ∨ ∃ k : Fin 5, k.val < s.profile.count ∧ (s.kelly.st k).isAligned = true, .chain)]
    else [(unknown, .modelUnknown), (notLocked, .chain)]
  | .spin => [(unknown, .modelUnknown), (notFree, .chain), (-500 < fig s.toolDepth, .clearance)]
  | .survey => [(∀ x w, s.kelly.tension = some x → s.limits.dry.total = some w → 10 * (w - x) < w, .notOnBottom)]
  | .park =>
    if o.parkKind = some .latch then [(unknown, .modelUnknown), (notLocked, .chain), (s.kelly.tob = false, .notOnBottom)]
    else [(unknown, .modelUnknown), (notFree, .chain),
      (s.axes.topState ≠ some true ∨ 0 < s.sledLow ∨ s.sledHigh < 0, .park)]
  | .none => []
  | .dwell => []

/-- An entry passes the start checks of R69: its mode, its directions, and its kind's own. -/
def State.Passes (o : Order) (s : State) : Prop :=
  Permitted s.ctl.mode o.kind ∧ ¬ s.Barred o ∧ NoneHolds (s.ownChecks o)

/-- Interface k has a window ahead, its near edge at e within the travel left: the lowest station whose edge lies above the position
(R97). -/
def State.WindowAhead (s : State) (k : Fin 5) (e : Int) : Prop :=
  let r := s.profile.interfaces[k]
  ∃ (j : Fin 8) (x : Int), (j.val : Int) < fig r.count ∧ r.stations[j] = some x ∧ e = x - 40 ∧ s.kelly.pos k < e ∧
    e ≤ s.profile.travel k ∧ ∀ (i : Fin 8) (y : Int), i.val < j.val → r.stations[i] = some y → y - 40 ≤ s.kelly.pos k

/-- `a` is the advance allowance of a HANGING BORE (R97): 100 mm short of the first window ahead, or the whole free extension. -/
def State.AllowanceIs (s : State) (a : Int) : Prop :=
  let left (k : Fin 5) : Int := s.profile.travel k - s.kelly.pos k
  let free := s.profile.members.filter fun k => (s.kelly.st k).isReleased
  (∃ k e, k ∈ free ∧ s.WindowAhead k e ∧ (∀ i ∈ free, i.val < k.val → ∀ e', ¬ s.WindowAhead i e') ∧
    a = max 0 (((free.filter fun i => i.val < k.val).map left).sum + (e - s.kelly.pos k) - 100)) ∨
  ((∀ k ∈ free, ∀ e, ¬ s.WindowAhead k e) ∧ a = max 0 ((free.map left).sum))

/-! ### Taking an entry (R68, R69, R82, R84) -/

/-- A taken entry fails its start checks with the reason of the first that fails (R69). An ENGAGE taken in the release settle time makes its
own checks later (R23). -/
def State.Fails (o : Order) (r : Reason) (s : State) : Prop :=
  (¬ Permitted s.ctl.mode o.kind ∧ r = .mode) ∨
  (Permitted s.ctl.mode o.kind ∧ s.Barred o ∧ r = .inhibited) ∨
  (Permitted s.ctl.mode o.kind ∧ ¬ s.Barred o ∧ (o.kind = .engage → s.kelly.releaseSettle = none) ∧ FirstHolds (s.ownChecks o) r)

/-- A taken entry fails none of the start checks made at its taking (R23, R69). -/
def State.MayBegin (o : Order) (s : State) : Prop :=
  s.Passes o ∨ (o.kind = .engage ∧ Permitted s.ctl.mode .engage ∧ ¬ s.Barred o ∧ s.kelly.releaseSettle ≠ none)

/-- `x` is the stroke in flight of `t` after `u` has begun the order that passed its checks, the governor FREE: its phase, its working values
clamped and CLAMPED (R82, R89, R97), the requests of its channels (R84 to R101, R168, R172), or its outcome where the ending of its first
motion phase holds already (R84). A crowd in POSITION has request zero until its first sled sample (log entry 51). -/
def State.Begins (u : State) (o : Order) (t : State) (x : Stroke) : Prop :=
  let fresh (clamped : Bool) : Figures := { Figures.fresh u.toolDepth (decide (2 ≤ u.kelly.debt)) with clamped := clamped }
  let stands (p : Phase) (figures : Figures) : Prop :=
    x.phase = p ∧ x.outcome = none ∧ x.endState = .running ∧ x.closed = false ∧ x.figures = figures
  let alone : Prop := t.kelly = u.kelly ∧ t.limits = u.limits ∧ t.ctl = u.ctl
  let asks (a : Axis) (m : ChannelMode) (v : Int) : Prop := (t.axes.get a).mode = m ∧ (t.axes.get a).request = v * fine
  let idle (a : Axis) : Prop := (t.axes.get a).request = 0
  let pulls (f : Int) : Prop := holds u.axes.union .hoistUp = false → holds u.axes.union .hoistDown = false →
    50 ≤ u.axes.limits.hoistLine → asks .hoist .tension f
  let carries (v : Int) : Prop := u.axes.rotary.mode = .speed → u.settle = u →
    t.axes.rotary.setpoint = u.axes.rotary.setpoint ∧
    (u.axes.rotary.setpoint = v * fine → u.axes.rotary.setpoint ≠ 0 → t.axes.rotary.reached = true)
  let sledGoes (target speed : Int) : Prop := alone ∧ x.sledWatch = some 10000 ∧ x.sledRef = fig u.kelly.sled ∧
    t.axes.crowd.mode = .position ∧ t.axes.sledGoal = some ⟨target, speed⟩ ∧ t.axes.crowd.cap = some 150 ∧ idle .crowd ∧ idle .hoist ∧
    idle .rotary
  let ended (r : Outcome) (figures : Figures) : Prop :=
    alone ∧ x.outcome = some r ∧ x.reason = none ∧ x.endState = .running ∧ x.figures = figures
  let winchMax := fig u.profile.machine.winchMax
  let winch := min (fig o.winchSpeed) winchMax
  let winched := fresh (decide (winchMax < fig o.winchSpeed))
  let target := max u.sledLow (min u.sledHigh (fig o.sledTarget))
  let slid := fresh (decide (target ≠ fig o.sledTarget))
  let turnMax := u.profile.rotaryMax (o.gear.getD .low)
  let turn := min (fig o.rotarySpeed) turnMax
  let geared : Prop := u.axes.gear ≠ none ∧ u.axes.gear = o.gear
  let shifts : Prop := alone ∧ idle .crowd ∧ idle .rotary ∧ ∀ g, o.gear = some g →
    ((∀ h, u.axes.shift ≠ .shifting h) → t.axes.shift = .pending g) ∧ (∀ h, u.axes.shift = .shifting h → t.axes.queuedShift = some g)
  (∀ n : Nat, o.kind = .dwell → u.Passes o → o.dwell = some (n : Int) →
    stands .wait (fresh false) ∧ alone ∧ x.dwell = some (n * 100) ∧ ∀ a, idle a) ∧
  (∀ d target : Int, o.kind = .descend → u.Passes o → o.targetDepth = some target → u.toolDepth = some d →
    (u.kelly.tob = false → d < target → stands .run winched ∧ alone ∧ x.winchSpeed = winch ∧ asks .hoist .speed winch ∧
      t.axes.hoist.brakeApplied = false ∧ idle .crowd ∧ idle .rotary) ∧
    (u.kelly.tob = true ∨ target ≤ d → ended (if u.kelly.tob = true then .bottom else .target) winched ∧ x.phase = .rampDown ∧
      ∀ a, idle a)) ∧
  (o.kind = .hoist → u.Passes o →
    (u.axes.topState ≠ some true →
      (o.toTop = some true ∨ ∃ d target, u.toolDepth = some d ∧ o.targetDepth = some target ∧ target < d) →
      stands .run winched ∧ alone ∧ x.winchSpeed = winch ∧ idle .crowd ∧ idle .rotary ∧
        (u.kelly.ropeDepth = none → asks .hoist .speed (-winch)) ∧
        ∀ r, u.kelly.ropeDepth = some r → asks .hoist .speed (-(if r - fig u.profile.machine.rTop ≤ 1000 then min winch 60 else winch))) ∧
    (u.axes.topState = some true → ended .top winched ∧ x.phase = .rampDown ∧ ∀ a, idle a) ∧
    (∀ d target : Int, u.axes.topState ≠ some true → o.toTop ≠ some true → u.toolDepth = some d → o.targetDepth = some target → d ≤ target →
      ended .target winched ∧ x.phase = .rampDown ∧ ∀ a, idle a)) ∧
  (o.kind = .sled → u.Passes o → u.kelly.sled ≠ none →
    (5 < magnitude (target - fig u.kelly.sled) → stands .move slid ∧ x.sledTarget = target ∧ sledGoes target (fig o.sledSpeed)) ∧
    (magnitude (target - fig u.kelly.sled) ≤ 5 → ended .target slid ∧ x.closed = true ∧ ∀ a, t.axes.get a = u.axes.get a)) ∧
  (o.kind = .engage → Permitted u.ctl.mode .engage → ¬ u.Barred o → u.kelly.releaseSettle ≠ none →
    stands .settleWait (fresh false) ∧ alone ∧ ∀ a, idle a) ∧
  (∀ l, o.kind = .engage → u.Passes o → u.kelly.releaseSettle = none → o.plan = some l →
    stands .seating { fresh false with seatAttempts := 1 } ∧ t.limits = u.limits ∧ t.ctl = u.ctl ∧
      t.kelly.rotation = some ⟨.seating, .turning, u.kelly.angle, u.profile.confirmTorque, false, false⟩ ∧
      (∀ j e, l.find? (fun e' => e'.1 = j) = some e → t.kelly.st j = .seating e.2) ∧
      (∀ j, l.find? (fun e' => e'.1 = j) = none → t.kelly.st j = u.kelly.st j) ∧ (∀ j, t.kelly.pos j = u.kelly.pos j) ∧
      pulls 50 ∧ asks .crowd .force (if (u.kelly.st 0).isEngaged = true then fig u.profile.kelly.holdIn else 0) ∧
      asks .rotary .creep creepSpeed) ∧
  (o.kind = .release → u.Passes o →
    (t.axes.crowd.setpoint ≠ 0 → stands .crowdDown (fresh false) ∧ alone ∧ idle .crowd ∧ idle .rotary ∧ pulls 50) ∧
    (t.axes.crowd.setpoint = 0 → stands .unseating (fresh false) ∧ t.limits = u.limits ∧ t.ctl = u.ctl ∧
      t.kelly.rotation = some ⟨.unseating, .turning, u.kelly.angle, u.profile.confirmTorque, false, false⟩ ∧
      (∀ i j, u.kelly.st i = .engaged j → t.kelly.st i = .unseating j) ∧
      (∀ i, (u.kelly.st i).isEngaged = false → t.kelly.st i = u.kelly.st i) ∧ (∀ j, t.kelly.pos j = u.kelly.pos j) ∧
      asks .rotary .creep (-creepSpeed) ∧ idle .crowd ∧ pulls 50) ∧
    (u.axes.crowd.mode = .braked → t.axes.crowd.setpoint = 0) ∧
    ((u.bounds .crowd).1 ≤ u.axes.crowd.setpoint → u.axes.crowd.setpoint ≤ (u.bounds .crowd).2 →
      t.axes.crowd.setpoint = u.axes.crowd.setpoint)) ∧
  (∀ a : Int, o.kind = .bore → u.Passes o → (o.boreMode = some .hanging → u.AllowanceIs a) →
    (o.boreMode = some .locked → a = fig u.profile.machine.sledTravel - fig u.kelly.sled) → o.boreMode ≠ none →
    let figures := fresh (decide (turnMax < fig o.rotarySpeed ∨ a < fig o.advance))
    let values : Prop := x.rotarySpeed = turn ∧ x.advance = min (fig o.advance) a ∧ (x.advanceClamped = true ↔ a < fig o.advance)
    (min (fig o.advance) a ≠ 0 →
      (¬ geared → stands .gear figures ∧ values ∧ shifts) ∧
      (geared → o.boreMode = some .locked → stands .rampUp figures ∧ alone ∧ values ∧ x.origin = u.toolDepth ∧ pulls 50 ∧
        asks .crowd .force (min (fig u.profile.kelly.holdIn) u.limits.set.push) ∧ asks .rotary .speed turn ∧ carries turn) ∧
      (∀ f w, geared → o.boreMode = some .hanging → o.downforce = some f → u.limits.set.wTotal = some w →
        let r := max 50 (min u.limits.set.hoistLine (w - f))
        stands .rampUp { figures with downforceShort := decide (w - r < f) } ∧ t.kelly = u.kelly ∧ t.ctl = u.ctl ∧
          t.limits = { u.limits with downforce := some f, set := { u.limits.set with holdback := some r } } ∧ values ∧
          x.origin = u.toolDepth ∧ x.windowWatch = true ∧ pulls r ∧ idle .crowd ∧ asks .rotary .speed turn ∧ carries turn)) ∧
    (min (fig o.advance) a = 0 → ended (if o.boreMode = some .hanging then .target else .sledEnd) figures ∧ values ∧
      (x.phase = .rampDown ∨ x.phase = .releaseDwell) ∧ idle .crowd ∧ idle .rotary)) ∧
  (o.kind = .spin → u.Passes o →
    (¬ geared → stands .gear (fresh (decide (turnMax < fig o.rotarySpeed))) ∧ x.rotarySpeed = turn ∧ idle .hoist ∧ shifts) ∧
    (geared → stands .turnCw (fresh (decide (turnMax < fig o.rotarySpeed))) ∧ alone ∧ x.rotarySpeed = turn ∧
      x.rotationLimit = some 30000 ∧ x.turnOrigin = u.kelly.angle ∧ x.cyclesLeft = (fig o.cycles).toNat ∧ idle .hoist ∧ idle .crowd ∧
      asks .rotary .speed turn)) ∧
  (o.kind = .survey → u.Passes o → stands .unseat (fresh false) ∧ x.unseatOrigin = u.kelly.angle ∧
    x.unseatConfirm = u.profile.confirmTorque ∧ x.unseatPassed = false ∧ x.unseatWatch = some 30000 ∧ t.kelly.known = false ∧
    (u.kelly.known = true → ∀ i : Fin 5, t.kelly.interfaces[i] = ⟨.unknown, none⟩) ∧ (u.kelly.known = false → t.kelly = u.kelly) ∧
    t.limits = { u.limits with unseatPhase := true } ∧ asks .rotary .creep (-creepSpeed) ∧ idle .hoist ∧ idle .crowd) ∧
  (o.kind = .park → u.Passes o →
    (o.parkKind = some .stow → stands .sledUp (fresh false) ∧ sledGoes 0 200) ∧
    (o.parkKind = some .latch →
      let held : Prop := u.axes.hoist.mode = .braked ∧ u.axes.rotary.mode = .braked ∧ t.axes.crowd.setpoint = t.goal .crowd
      t.kelly = u.kelly ∧ t.limits = u.limits ∧ t.ctl = { u.ctl with latchRequest := true } ∧
        asks .crowd .force (fig u.profile.kelly.holdIn) ∧ idle .hoist ∧ idle .rotary ∧
        (¬ held → stands .holdIn (fresh false)) ∧
        (held → x.phase = .holdIn ∧ x.outcome = some .done ∧ x.reason = none ∧ x.endState = .held ∧ x.closed = true ∧
          x.figures = fresh false ∧ x.parkDue = some ⟨u.kelly.ropeDepth, u.kelly.sled, u.kelly.angle⟩)))

/-- `t` is `u`, its sequencer RUNNING with no stroke in flight, after it has taken the entry at its next index (R68): SUSPENDED where the entry
is CONSOLE-owned; HELD past it where it fails a start check (R69), its entry returned REFUSED with the reason and with the start depth as
its end depth; else with the entry as the stroke in flight, begun. -/
def State.Takes (u t : State) : Prop :=
  let k := u.seq.next
  let o := u.ring[k].order
  let record := Figures.fresh u.toolDepth (decide (2 ≤ u.kelly.debt))
  (u.ring[k].owner = .console →
    t = ({ u with seq := { u.seq with state := .suspended } } : State).setFlagsAll flagSeqState) ∧
  (∀ r, u.ring[k].owner = .unit → u.Fails o r →
    t = { u with
      links := u.links.map fun c => (c.setFlags 4).setFlags 8
      mail := t.mail, axes := t.axes, limits := t.limits
      ctl := if o.kind = .park then { u.ctl with latchRequest := false } else u.ctl
      kelly := { u.kelly with unseatFailedDue := false }
      seq := ⟨.held, k + 1, none⟩
      ring := u.ring.set k ⟨.console, o, some ⟨.refused, some r, some { record with endDepth := u.toolDepth }⟩⟩ }) ∧
  (u.ring[k].owner = .unit → u.MayBegin o → u.kelly.rotation = none → u.ctl.reseat = .idle → u.axes.relief = none →
    ∃ x, t = { u with
        links := t.links, mail := t.mail, axes := t.axes, kelly := t.kelly, limits := t.limits, ctl := t.ctl
        seq := ⟨.running, k, some x⟩ } ∧
      (o.kind ≠ .survey → t.links = u.links) ∧
      x.index = k ∧ x.met = false ∧ x.inhibited = false ∧ x.figures.startDepth = u.toolDepth ∧
      (u.axes.governor = .free → u.Begins o t x))

/-! ### Watches, reactions and marks -/

/-- The kelly is restrained: an interface ENGAGED, TOB, and a crowd force below the hold-in force (R36); an absent force is below none
(log entry 19). -/
def State.Restrained (s : State) : Prop :=
  (∃ k : Fin 5, k.val < s.profile.count ∧ ∃ j, s.kelly.interfaces[k].state = .engaged j) ∧
  s.kelly.tob = true ∧ ∃ f, s.kelly.crowdForce = some f ∧ f < fig s.profile.kelly.holdIn

/-- A raise resolved by the reaction table (R153): in a COMMITTED table the descriptor of a vector below the length and present, else
REACTION_MISSING. -/
def Faults.Resolves (f : Faults) (v vec : FaultVector) (cls : ReactionClass) (notify : NotifySet) : Prop :=
  (∀ k : Fin 22, f.committed = true → vectorOfNat k.val = v → k.val < f.length → f.descriptors[k].present = true →
    vec = v ∧ cls = f.descriptors[k].cls ∧ notify = f.descriptors[k].notify) ∧
  ((∀ k : Fin 22, vectorOfNat k.val = v → f.committed = false ∨ f.length ≤ k.val ∨ f.descriptors[k].present = false) →
    vec = .reactionMissing ∧ cls = .halt ∧ notify = 7)

/-- A mark is crossed by a change of D (R58). -/
def Mark.Crosses (m : Mark) (c : DepthChange) : Prop :=
  m.state = .armed ∧ ((m.direction = .down ∧ c.old < m.depth ∧ m.depth ≤ c.new) ∨ (m.direction = .up ∧ m.depth < c.old ∧ c.new ≤ m.depth))

/-! ### The object map and its readouts (R176, R179) -/

/-- The number of a vector (R149). -/
def vectorNumber (v : FaultVector) : Int := codeIn
  [FaultVector.ropeEncoder, .rotaryEncoder, .sledSensor, .pressureSensor, .datumDiscrepancy, .datumOverdue, .envelopeLost,
   .stabilityStop, .seatEarly, .seatAttempts, .unseatFailed, .chainLost, .boreStall, .noAdvance, .overpull, .slackRope, .topStop,
   .gearShift, .surveyFailed, .parkDisturbed, .linkDown, .holdInLost, .compound, .reactionMissing] v

/-- The code of a phase (R81). -/
def phaseNumber (p : Phase) : Int := codeIn
  [Phase.run, .rampDown, .move, .settleWait, .seating, .creepBack, .crowdDown, .unseating, .gear, .rampUp, .advance, .releaseDwell,
   .turnCw, .turnCcw, .wait, .unseat, .raise, .nest, .sledUp, .brake, .holdIn] p

/-- The codes of the named reasons (R64). -/
def reasonNumbers : List (Reason × Int) :=
  [(.mode, 32), (.inhibited, 33), (.modelUnknown, 34), (.chain, 35), (.notOnBottom, 36), (.planMismatch, 37), (.notAligned, 38),
   (.overweight, 39), (.clearance, 40), (.park, 41)]

/-- The code of the second of two names, or of a latch that is SET, is 1; of the first, or of one that is CLEAR, 0 (R176). -/
def bit (b : Bool) : Int := if b = true then 1 else 0

/-- The code of a class (R149). -/
def classNumber (c : ReactionClass) : Int := codeIn [ReactionClass.announce, .hold, .halt, .cut] c

/-- The object and the sub-index name the field in the map, and a READ of the field finds the value, or nothing while it is absent. -/
def State.Shows (obj sub : Nat) (f : Field) (v : Option Int) (s : State) : Prop :=
  (∀ q : Request, q.object = obj → q.sub = sub → q.field = some f) ∧ s.read f = v

/-- The sub-indexes at which an object holds its fields. -/
def ObjectHolds (obj : Nat) (subs : List Nat) : Prop := ∀ q : Request, q.object = obj → (q.field ≠ none ↔ q.sub ∈ subs)

/-- The objects of the map, and the sub-indexes of each (R179). -/
def MapHolds : Prop :=
  (∀ obj, objectFields obj ≠ none ↔ obj ∈ [0x1000, 0x1010, 0x1300, 0x1400, 0x2000, 0x3000, 0x3100, 0x4000, 0x4100, 0x5000, 0x5100,
    0x7000, 0x7100, 0x7F00] ∨ (0x1101 ≤ obj ∧ obj ≤ 0x1105) ∨ (0x1200 ≤ obj ∧ obj ≤ 0x1204) ∨ (0x2100 ≤ obj ∧ obj ≤ 0x211F) ∨
    (0x6000 ≤ obj ∧ obj ≤ 0x6007)) ∧
  ObjectHolds 0x1000 (List.range' 0x01 16) ∧ ObjectHolds 0x1010 (List.range' 0x01 6 ++ List.range' 0x20 3) ∧
  (∀ k : Fin 5, ObjectHolds (0x1101 + k.val) (List.range' 0x01 5) ∧
    ObjectHolds (0x1200 + k.val) (List.range' 0x01 4 ++ List.range' 0x10 8)) ∧
  ObjectHolds 0x1300 (List.range' 0x01 3) ∧ ObjectHolds 0x1400 (List.range' 0x01 2) ∧ ObjectHolds 0x2000 (List.range' 0x01 5) ∧
  (∀ e : Fin 32, ObjectHolds (0x2100 + e.val)
    (List.range' 0x01 4 ++ List.range' 0x10 14 ++ List.range' 0x20 11 ++ List.range' 0x40 15)) ∧
  ObjectHolds 0x3000 (List.range' 0x01 5 ++ List.range' 0x08 5 ++ List.range' 0x10 5 ++ List.range' 0x18 5 ++ List.range' 0x20 12 ++
    List.range' 0x50 4 ++ List.range' 0x58 4 ++ List.range' 0x60 5 ++ List.range' 0x68 3) ∧
  ObjectHolds 0x3100 (List.range' 0x01 17 ++ List.range' 0x21 6 ++ List.range' 0x31 6 ++ List.range' 0x41 6) ∧
  ObjectHolds 0x4000 (List.range' 0x01 8) ∧ ObjectHolds 0x4100 (List.range' 0x01 4) ∧
  ObjectHolds 0x5000 ([0x01, 0x02] ++ List.range' 0x10 22 ++ List.range' 0x30 22 ++ List.range' 0x50 22) ∧
  ObjectHolds 0x5100 ([0x01] ++ List.range' 0x10 16 ++ List.range' 0x20 5 ++ List.range' 0x30 3) ∧
  (∀ k : Fin 8, ObjectHolds (0x6000 + k.val) (List.range' 0x01 5)) ∧
  ObjectHolds 0x7000 (List.range' 0x01 3 ++ List.range' 0x11 3 ++ List.range' 0x21 3) ∧ ObjectHolds 0x7100 (List.range' 0x01 6) ∧
  ObjectHolds 0x7F00 []

/-- The profile records (R4 to R9) with the profile state, N0 and J (R12), and the slurry record (R15). -/
def State.ShowsProfile (s : State) : Prop :=
  let p := s.profile
  let m := p.machine
  let y := p.kelly
  let machine (k : Fin 16) (v : Option Int) : Prop := s.Shows 0x1000 (0x01 + k.val) (.machine k) v
  let kelly (k : Fin 6) (v : Option Int) : Prop := s.Shows 0x1010 (0x01 + k.val) (.kelly k) v
  let readout (sub : Nat) (v : Option Int) : Prop := s.Shows 0x1010 sub (.kellyReadout sub) v
  (machine 0 m.sledTravel ∧ machine 1 m.zTop ∧ machine 2 m.cMax ∧ machine 3 m.pMax ∧ machine 4 m.wMax ∧ machine 5 m.torqueLow ∧
    machine 6 m.torqueHigh ∧ machine 7 m.constLow ∧ machine 8 m.constHigh ∧ machine 9 m.speedLow ∧ machine 10 m.speedHigh ∧
    machine 11 m.winchMax ∧ machine 12 m.aCap ∧ machine 13 m.aRod ∧ machine 14 m.rDatum ∧ machine 15 m.rTop) ∧
  (kelly 0 y.n ∧ kelly 1 y.seatAngle ∧ kelly 2 y.seatTol ∧ kelly 3 y.holdIn ∧ kelly 4 y.column ∧ kelly 5 y.fallback) ∧
  readout 0x20 (some (bit p.committed)) ∧
  (p.committed = false → readout 0x21 none ∧ readout 0x22 none) ∧
  (∀ k : Fin 5, p.committed = true → y.n = some ((k.val : Int) + 1) →
    readout 0x21 (some (fig p.sections[k].bottom + fig p.tool.height)) ∧
    readout 0x22 (some (fig p.sections[k].length + fig p.tool.height))) ∧
  (∀ i : Fin 5,
    let section_ (k : Fin 5) (v : Option Int) : Prop := s.Shows (0x1101 + i.val) (0x01 + k.val) (.sectionRec i k) v
    let iface (k : Fin 3) (v : Option Int) : Prop := s.Shows (0x1200 + i.val) (0x01 + k.val) (.iface i k) v
    let r := p.sections[i]
    let a := p.interfaces[i]
    (section_ 0 r.length ∧ section_ 1 r.mass ∧ section_ 2 r.volume ∧ section_ 3 r.torque ∧ section_ 4 r.bottom) ∧
    (iface 0 a.travel ∧ iface 1 a.push ∧ iface 2 a.pull) ∧ s.Shows (0x1200 + i.val) 0x04 (.stationCount i) a.count ∧
    ∀ j : Fin 8, s.Shows (0x1200 + i.val) (0x10 + j.val) (.station i j) a.stations[j]) ∧
  (s.Shows 0x1300 0x01 (.tool 0) p.tool.mass ∧ s.Shows 0x1300 0x02 (.tool 1) p.tool.volume ∧
    s.Shows 0x1300 0x03 (.tool 2) p.tool.height) ∧
  s.Shows 0x1400 0x01 (.slurry 0) (some s.slurry.density) ∧ s.Shows 0x1400 0x02 (.slurry 1) (some s.slurry.level)

/-- The ring control (R67), the entries' order parts, owners and completion parts (R63, R64). -/
def State.ShowsRing (s : State) : Prop :=
  let control (sub : Nat) (v : Option Int) : Prop := s.Shows 0x2000 sub (.ringControl sub) v
  (control 0x01 (some (s.seq.next.val : Int)) ∧
    control 0x02 (some (codeIn [SeqState.stopped, .running, .suspended, .held, .faulted] s.seq.state)) ∧
    control 0x03 (s.seq.stroke.map fun x => (x.index.val : Int)) ∧ control 0x04 (s.seq.stroke.map fun x => phaseNumber x.phase) ∧
    control 0x05 (s.seq.stroke.map fun x => codeIn [EndState.running, .held, .stopped, .faulted] x.endState)) ∧
  ∀ e : Fin 32,
    let o := s.ring[e].order
    let row (sub : Nat) (f : OrderField) (v : Option Int) : Prop := s.Shows (0x2100 + e.val) sub (.order e f) v
    let done (sub : Nat) (v : Option Int) : Prop := s.Shows (0x2100 + e.val) sub (.completion e sub) v
    (row 0x01 .kind (some (codeIn [Kind.none, .descend, .hoist, .sled, .engage, .release, .bore, .spin, .dwell, .survey, .park] o.kind)) ∧
      row 0x02 .tag (some o.tag) ∧ row 0x03 .gear (o.gear.map fun g => if g = .low then 0 else 1) ∧
      s.Shows (0x2100 + e.val) 0x04 (.owner e) (some (if s.ring[e].owner = .console then 0 else 1)) ∧
      row 0x10 .targetDepth o.targetDepth ∧ row 0x11 .toTop (o.toTop.map bit) ∧ row 0x12 .winchSpeed o.winchSpeed ∧
      row 0x13 .sledTarget o.sledTarget ∧ row 0x14 .sledSpeed o.sledSpeed ∧
      row 0x15 .boreMode (o.boreMode.map fun m => if m = .locked then 0 else 1) ∧ row 0x16 .advance o.advance ∧
      row 0x17 .rotarySpeed o.rotarySpeed ∧ row 0x18 .push o.push ∧ row 0x19 .downforce o.downforce ∧
      row 0x1A .autoRelease (o.autoRelease.map bit) ∧ row 0x1B .cycles o.cycles ∧ row 0x1C .dwell o.dwell ∧
      row 0x1D .parkKind (o.parkKind.map fun k => if k = .stow then 0 else 1) ∧ row 0x20 .planLength o.planLength ∧
      ∀ p : Fin 5, row (0x21 + 2 * p.val) (.pairIface p) o.pairs[p].iface ∧ row (0x22 + 2 * p.val) (.pairStation p) o.pairs[p].station) ∧
    (s.ring[e].completion = none → ∀ sub, 0x40 ≤ sub → sub ≤ 0x4E → done sub none) ∧
    ∀ c, s.ring[e].completion = some c →
      done 0x40 (some (codeIn [Outcome.done, .target, .bottom, .top, .sledEnd, .timeout, .mark, .refused, .aborted, .heldByFault, .faulted,
        .notRun, .reset] c.outcome)) ∧
      (c.reason = none → done 0x41 none) ∧ (∀ v, c.reason = some (.fault v) → done 0x41 (some (vectorNumber v))) ∧
      (∀ r ∈ reasonNumbers, c.reason = some r.1 → done 0x41 (some r.2)) ∧
      (c.figures = none → ∀ sub, 0x42 ≤ sub → sub ≤ 0x4E → done sub none) ∧
      ∀ f, c.figures = some f →
        done 0x42 f.startDepth ∧ done 0x43 f.endDepth ∧ done 0x44 (some f.peakPush) ∧ done 0x45 (some f.peakPull) ∧
        done 0x46 (some f.peakTorque) ∧ done 0x47 (some f.peakTension) ∧ done 0x48 (some (f.stallCount : Int)) ∧
        done 0x49 (some (f.seatAttempts : Int)) ∧
        (∃ n : Nat, 100 * n < f.durationMs + 100 ∧ f.durationMs < 100 * n + 100 ∧ done 0x4A (some (min 65535 n : Nat))) ∧
        done 0x4B (some (bit f.clamped)) ∧ done 0x4C (some (bit f.depthUncertain)) ∧ done 0x4D (some (bit f.downforceShort)) ∧
        done 0x4E (some (bit f.releasedAfter))

/-- The depths of the kelly follow from the drive depth and the positions (R45, R46): the drive depth, D, the bottoms of S1 to Sn and the
unplaced length. -/
def State.DepthsFormed (s : State) : Prop :=
  let p := s.profile
  let pos (k : Fin 5) : Int := s.kelly.pos k
  (p.committed = false ∨ s.kelly.sled = none → s.driveDepth = none) ∧
  (s.kelly.known = false ∨ s.driveDepth = none → s.toolDepth = none ∧ ∀ k, s.sectionBottom k = none) ∧
  (s.toolDepth = none ∨ s.kelly.ropeDepth = none → s.unplaced = none) ∧
  (∀ x, p.committed = true → s.kelly.sled = some x → s.driveDepth = some (fig p.machine.zTop + x)) ∧
  ∀ (n : Fin 5) (d : Int), s.kelly.known = true → s.driveDepth = some d → p.kelly.n = some ((n.val : Int) + 1) →
    let inner := p.sections[n]
    let tip := d + (fig inner.bottom + fig p.tool.height) + (((List.finRange 5).filter fun i => i ≤ n).map pos).sum
    s.toolDepth = some tip ∧
    (∀ k : Fin 5, k ≤ n →
      s.sectionBottom k = some (d + fig p.sections[k].bottom + (((List.finRange 5).filter fun i => i ≤ k).map pos).sum)) ∧
    (∀ k : Fin 5, n < k → s.sectionBottom k = none) ∧ s.sectionBottom n = some (tip - fig p.tool.height) ∧
    ∀ r, s.kelly.ropeDepth = some r → s.unplaced = some (r + (fig inner.length + fig p.tool.height) - tip)

/-- The model readouts (R17, R20, R45, R179). Those of interfaces and sections stand below the committed section count. -/
def State.ShowsModel (s : State) : Prop :=
  let m := s.kelly
  let row (sub : Nat) (v : Option Int) : Prop := s.Shows 0x3000 sub (.model sub) v
  (∀ k : Fin 5, s.profile.committed = true → k.val < s.profile.count →
    (m.st k = .unknown → row (0x01 + k.val) (some 0) ∧ row (0x08 + k.val) none) ∧
    (m.st k = .released → row (0x01 + k.val) (some 1) ∧ row (0x08 + k.val) none) ∧
    (∀ j : Fin 8, (m.st k = .aligned j → row (0x01 + k.val) (some 2) ∧ row (0x08 + k.val) (some (j.val : Int))) ∧
      (m.st k = .seating j → row (0x01 + k.val) (some 3) ∧ row (0x08 + k.val) (some (j.val : Int))) ∧
      (m.st k = .engaged j → row (0x01 + k.val) (some 4) ∧ row (0x08 + k.val) (some (j.val : Int))) ∧
      (m.st k = .unseating j → row (0x01 + k.val) (some 5) ∧ row (0x08 + k.val) (some (j.val : Int)))) ∧
    row (0x10 + k.val) m.interfaces[k].position ∧ row (0x18 + k.val) (s.sectionBottom k)) ∧
  (∀ k : Fin 5, s.profile.committed = false ∨ s.profile.count ≤ k.val →
    row (0x01 + k.val) none ∧ row (0x08 + k.val) none ∧ row (0x10 + k.val) none ∧ row (0x18 + k.val) none) ∧
  (row 0x20 s.toolDepth ∧ row 0x21 s.driveDepth ∧ row 0x22 m.ropeDepth ∧ row 0x23 s.unplaced ∧ row 0x24 m.toolLoad ∧
    row 0x25 (some (bit m.tob)) ∧ row 0x26 (some m.debt) ∧ row 0x27 (some m.accumulator) ∧ row 0x28 m.torque ∧ row 0x29 m.crowdForce ∧
    row 0x2A m.angle ∧ row 0x2B m.sled)

/-- The channel readouts (R121). A setpoint between two whole steps shows as one of them. -/
def State.ShowsChannels (s : State) : Prop :=
  let x := s.axes
  let row (sub : Nat) (v : Option Int) : Prop := s.Shows 0x3000 sub (.model sub) v
  let mode (sub : Nat) (c : Channel) (first second : List ChannelMode) : Prop :=
    (c.mode = .braked → row sub (some 0)) ∧ (c.mode ∈ first → row sub (some 1)) ∧ (c.mode ∈ second → row sub (some 2))
  let setpoint (sub : Nat) (c : Channel) : Prop := ∃ n : Int, c.setpoint - fine < n * fine ∧ n * fine < c.setpoint + fine ∧ row sub (some n)
  let released (sub : Nat) (c : Channel) : Prop := row sub (some (if c.brakeApplied = true then 0 else 1))
  (mode 0x50 x.hoist [.speed] [.tension] ∧ setpoint 0x51 x.hoist ∧ row 0x52 (some x.hoist.demand) ∧ released 0x53 x.hoist) ∧
  (mode 0x58 x.crowd [.force] [.position] ∧ setpoint 0x59 x.crowd ∧ row 0x5A (some x.crowd.demand) ∧ released 0x5B x.crowd) ∧
  (mode 0x60 x.rotary [.speed] [.creep] ∧ setpoint 0x61 x.rotary ∧ row 0x62 x.rotary.cap ∧ row 0x63 (some x.rotary.demand) ∧
    released 0x64 x.rotary) ∧
  (x.gear = some .low → row 0x68 (some 0)) ∧ (x.gear = some .high → row 0x68 (some 1)) ∧ (x.gear = none → row 0x68 (some 2)) ∧
  (x.shift = .idle → row 0x69 (some 0)) ∧ (∀ g, (x.shift = .pending g → row 0x69 (some 1)) ∧ (x.shift = .shifting g → row 0x69 (some 2))) ∧
  row 0x6A (some (codeIn [Governor.free, .normal, .fast, .cut] x.governor))

/-- The limit set and its terms (R104), the envelope (R139) and the inhibit masks (R146). -/
def State.ShowsLimits (s : State) : Prop :=
  let w := s.limits.set
  let limit (sub : Nat) (v : Option Int) : Prop := s.Shows 0x3100 sub (.limit sub) v
  let env (sub : Nat) (v : Option Int) : Prop := s.Shows 0x4000 sub (.envelope sub) v
  (limit 0x01 (some w.push) ∧ limit 0x02 (some w.pull) ∧ limit 0x03 (some w.torque) ∧ limit 0x04 (some w.hoistLine) ∧
    limit 0x05 (some w.rotationCap) ∧ limit 0x06 w.holdback ∧ limit 0x07 w.wTotal ∧ limit 0x08 s.limits.dry.total ∧
    limit 0x09 w.pushMargin ∧ limit 0x0A w.pullMargin ∧ limit 0x0B w.freeLength ∧ limit 0x0C w.buckling ∧ limit 0x0D w.ePush ∧
    limit 0x0E w.ePull ∧ limit 0x0F w.eTorque ∧
    limit 0x10 (some (codeIn [Binding.unknown, .chain, .stop, .settle, .debt, .structural, .buckling, .envelope, .fallback, .machine]
      w.binding)) ∧
    limit 0x11 (some (bit s.limits.holdInLost)) ∧
    (∀ k : Fin 5, limit (0x21 + k.val) w.weights[k] ∧ limit (0x31 + k.val) w.fractions[k] ∧ limit (0x41 + k.val) s.limits.dry.sections[k]) ∧
    limit 0x26 w.toolWeight ∧ limit 0x36 w.toolFraction ∧ limit 0x46 s.limits.dry.tool) ∧
  (env 0x01 (s.env.record.map fun r => (r.sequence : Int)) ∧
    env 0x02 (s.env.record.map fun r => codeIn [Stability.normal, .restricted, .stop] r.state) ∧ env 0x03 (s.env.record.map (·.push)) ∧
    env 0x04 (s.env.record.map (·.pull)) ∧ env 0x05 (s.env.record.map (·.torque)) ∧
    env 0x06 (some (codeIn [Freshness.fresh, .stale, .lost] s.env.freshness)) ∧ env 0x07 (some (bit s.env.lossLatch)) ∧
    env 0x08 (some (bit s.env.stopLatch))) ∧
  (s.Shows 0x4100 0x01 (.mask .console) (some (s.masks.console.toNat : Int)) ∧
    s.Shows 0x4100 0x02 (.mask .stability) (some (s.masks.stability.toNat : Int)) ∧
    s.Shows 0x4100 0x03 (.mask .recorder) (some (s.masks.recorder.toNat : Int)) ∧
    s.Shows 0x4100 0x04 .union (some ((s.masks.console ||| s.masks.stability ||| s.masks.recorder).toNat : Int)))

/-- The reaction table (R150), and the fault controller with its context, its lockout record and the last fault (R155, R162). -/
def State.ShowsFaults (s : State) : Prop :=
  let f := s.faults
  let row (sub : Nat) (v : Option Int) : Prop := s.Shows 0x5100 sub (.fault sub) v
  let vector (v : Option FaultVector) : Option Int := v.map vectorNumber
  (s.Shows 0x5000 0x01 .tableLength (some (f.length : Int)) ∧ s.Shows 0x5000 0x02 .tableState (some (bit f.committed)) ∧
    ∀ v : Fin 22, let d := f.descriptors[v]
      s.Shows 0x5000 (0x10 + v.val) (.present v) (some (bit d.present)) ∧
      s.Shows 0x5000 (0x30 + v.val) (.cls v) (some (classNumber d.cls)) ∧
      s.Shows 0x5000 (0x50 + v.val) (.notify v) (some (d.notify.toNat : Int))) ∧
  row 0x01 (some (codeIn [ControllerState.clear, .reacting, .compound, .cut, .lockout] f.state)) ∧
  (f.context = none → ∀ sub, 0x10 ≤ sub → sub ≤ 0x1F → row sub none) ∧
  (∀ c, f.context = some c →
    row 0x10 (some (vectorNumber c.serviceVector)) ∧ row 0x11 (some (classNumber c.serviceClass)) ∧
    row 0x12 (some (vectorNumber c.firstVector)) ∧ row 0x13 (some (vectorNumber c.firstRaised)) ∧
    row 0x14 (some (classNumber c.firstClass)) ∧ row 0x15 (vector c.secondVector) ∧ row 0x16 (vector c.secondRaised) ∧
    row 0x17 (vector c.thirdVector) ∧ row 0x18 (some (c.laterCount : Int)) ∧ row 0x19 (vector c.lastLater) ∧
    row 0x1A (c.ringIndex.map fun i => (i.val : Int)) ∧ row 0x1B (c.phase.map phaseNumber) ∧ row 0x1C c.depth ∧ row 0x1D c.crowdForce ∧
    row 0x1E c.torque ∧ row 0x1F c.tension) ∧
  row 0x20 (some (if f.lockoutRecord = none then 0 else 1)) ∧
  row 0x21 (vector (f.lockoutRecord.map (·.first))) ∧ row 0x22 (vector (f.lockoutRecord.bind (·.compounding))) ∧
  row 0x23 (vector (f.lockoutRecord.map (·.locking))) ∧ row 0x24 (f.lockoutRecord.bind (·.depth)) ∧
  row 0x30 (vector (f.lastFault.map (·.vector))) ∧ row 0x31 (f.lastFault.map fun r => classNumber r.cls) ∧
  row 0x32 (f.lastFault.bind (·.depth))

/-- The depth marks (R56), the notice object (R182) and the unit mode record (R164). -/
def State.ShowsUnit (s : State) : Prop :=
  let row (sub : Nat) (v : Option Int) : Prop := s.Shows 0x7100 sub (.modeRec sub) v
  (∀ k : Fin 8, let m := s.marks[k]
    let mark (sub : Nat) (f : MarkField) (v : Int) : Prop := s.Shows (0x6000 + k.val) sub (.mark k f) (some v)
    mark 0x01 .depth m.depth ∧ mark 0x02 .direction (codeIn [MarkDirection.down, .up] m.direction) ∧
    mark 0x03 .action (codeIn [MarkAction.note, .endStroke, .hold] m.action) ∧ mark 0x04 .disarm 0 ∧
    mark 0x05 .state (codeIn [MarkState.unarmed, .armed, .reached] m.state)) ∧
  (∀ l, let c := s.links.get l
    s.Shows 0x7000 (ownSub l) (.flags l) (some (c.flags.toNat : Int)) ∧
    s.Shows 0x7000 (0x10 + ownSub l) (.enables l) (some (c.enables.toNat : Int)) ∧
    s.Shows 0x7000 (0x20 + ownSub l) (.linkState l) (some (if c.up = true then 0 else 1))) ∧
  row 0x01 (some (codeIn [UnitMode.config, .surveyRequired, .operating, .parked, .lockout] s.ctl.mode)) ∧
  row 0x02 (s.ctl.park.map fun k => if k.kind = .stow then 0 else 1) ∧ row 0x03 (s.ctl.park.bind (·.refs.rope)) ∧
  row 0x04 (s.ctl.park.bind (·.refs.sled)) ∧ row 0x05 (s.ctl.park.bind (·.refs.angle)) ∧
  row 0x06 (some (if s.ctl.reseat = .idle then 0 else 1))

/-! ### Invariants -/

/-- No descriptor's class lies below its vector's minimum (R149, R151). -/
def State.ClassesAtMinimum (s : State) : Prop :=
  ∀ v : Fin 22, (minClass (vectorOfNat v.val)).rank ≤ s.faults.descriptors[v].cls.rank

/-- The accumulator stays below 12,000 mm and the datum debt within 0 to 4 (R45, R54). -/
def State.DebtInRange (s : State) : Prop :=
  0 ≤ s.kelly.accumulator ∧ s.kelly.accumulator < 12000 ∧ 0 ≤ s.kelly.debt ∧ s.kelly.debt ≤ 4

/-- Every profile figure that is present lies in the write range of its field (R4 to R9). -/
def Profile.FiguresInRange (p : Profile) : Prop :=
  ∀ (f : Field) (r : Int × Int) (v : Int), profileRange f = some r → p.value f = some v → r.1 ≤ v ∧ v ≤ r.2

/-- A request buffer holds at most four requests; a DOWN link holds no request and no frame (R178, R183, R184). -/
def State.BuffersSound (s : State) : Prop :=
  ∀ l, (s.links.get l).buffer.length ≤ 4 ∧
    ((s.links.get l).up = false → (s.links.get l).buffer = [] ∧ (s.links.get l).queue = [])

/-- The sequencer is RUNNING exactly while a stroke is in flight, and that stroke is the UNIT-owned entry at the next index (R67,
R68). -/
def State.SequencerSound (s : State) : Prop :=
  (s.seq.state = .running ↔ s.seq.stroke.isSome = true) ∧
  ∀ x, s.seq.stroke = some x → x.index = s.seq.next ∧ s.ring[x.index].owner = .unit

/-- Within one engagement plan no interface is listed twice (R22). -/
def Order.PlanDistinct (o : Order) : Prop := ∀ n, o.planLength = some n → ((o.named n).map Prod.snd).Nodup

/-- Every position lies within [0, travel] (R45). -/
def State.PositionsInRange (p : Profile) (m : Kelly) : Prop := ∀ k : Fin 5, 0 ≤ m.pos k ∧ m.pos k ≤ p.travel k

end Sys2Proof.Machine
end

