-- ==== Sys2Proof/Certificates/Slice0/Obligations.lean ====
section
/-! DEFINITION. The statements: what each command of the unit does, by the numbered rules, and what every command keeps. -/
open Sys2Proof Sys2Proof.Machine

/-! ### Steps and resets -/

/-- A step takes the command at the front of the queue and runs it with the queue's rest. -/
def Obligations.StepTakesFrontCommand : Prop :=
  ∀ (c : Instr) (rest : List Instr) (s : State), s.pending = c :: rest → step s = exec c { s with pending := rest }

/-- Every command answers a next state and leaves the queue as it is; so does every step on an empty queue. No command stops the unit. -/
def Obligations.EveryCommandCompletes : Prop :=
  (∀ (c : Instr) (s : State), ∃ t, exec c s = .next t ∧ t.pending = s.pending) ∧
  ∀ s : State, s.pending = [] → ∃ t, step s = .next t ∧ t.pending = []

/-- DESIGN CHOICE (log entries 2, 3 and 7). On an empty queue, with nothing due and nothing for a link to do, a step is one millisecond: every
running timer loses it; the stroke's duration, the times since the last rope and sled samples, and the rotation time of a no-advance
window whose rotation runs grow by it; the setpoints ramp; and nothing else changes. From channels that stand as their bounds, caps and
brakes hold them, a working setpoint moves toward its goal (the request within the bounds) by at most its rate (the ramp rate, or the
faster fall of a fast stop), falls as far as zero and does not rise while its load is at the cap, is reported where it arrives at its goal
or at zero, and starts the brake timer where the axis then rests at zero. That a setpoint whose load is at the cap falls toward a smaller
request, as far as zero and not beyond, is log entry 74. -/
def Obligations.IdleStepIsOneMillisecond : Prop :=
  ∀ s : State, s.pending = [] → s.handOffs = [] → s.timersDue = [] → (∀ l, (s.links.get l).buffer = [] ∧ (s.links.get l).queue = []) →
    let less (n : Timer) : Timer := n.map (· - 1)
    let turns : Prop := s.axes.rotary.atRest = false ∧ (∃ v, s.kelly.speed = some v ∧ 0 < v) ∧ s.axes.relief = none ∧
      holds s.axes.union .rotateCw = false ∧ s.axes.rotary.cap ≠ some 0 ∧ ∃ x, s.seq.stroke = some x ∧ x.inMotion = true ∧ x.phase = .advance
    ∃ t, step s = .next t ∧
      t = { s with
        kelly := { s.kelly with seatSettle := less s.kelly.seatSettle, releaseSettle := less s.kelly.releaseSettle }
        seq := { s.seq with stroke := s.seq.stroke.map fun x => { x with
          rotationLimit := less x.rotationLimit, sledWatch := less x.sledWatch, dwell := less x.dwell
          releaseDwell := less x.releaseDwell, unseatWatch := less x.unseatWatch, stuckWatch := less x.stuckWatch
          figures := { x.figures with durationMs := x.figures.durationMs + 1 } } }
        axes := { s.axes with
          hoist := t.axes.hoist, crowd := t.axes.crowd, rotary := t.axes.rotary, keptTension := t.axes.keptTension
          shiftTimer := less s.axes.shiftTimer, stallTimer := less s.axes.stallTimer, window := t.axes.window
          sinceRope := s.axes.sinceRope + 1, sinceSled := s.axes.sinceSled + 1 }
        env := { s.env with freshTimer := less s.env.freshTimer, lossTimer := less s.env.lossTimer }
        sup := if s.sup.active = true then { s.sup with inputs := s.sup.inputs.map fun i => { i with timer := less i.timer } } else s.sup
        links := s.links.map fun c => { c with idle := less c.idle }
        free := s.free + 1 } ∧
      (turns → t.axes.window = s.axes.window.map fun w => { w with time := w.time + 1 }) ∧
      (¬ turns → t.axes.window = s.axes.window) ∧
      (s.settle = s → t.axes.keptTension = s.axes.keptTension ∧ ∀ a, 0 ≤ s.rateOf a →
        let c := s.axes.get a
        let d := t.axes.get a
        let p := toward (s.rateOf a) (s.goal a) c.setpoint
        let rests : Prop := c.mode ≠ .braked ∧ d.setpoint = 0 ∧ c.request = 0 ∧ (a = .hoist → s.axes.keptTension = none) ∧
          (c.atRest = true ∨ s.sup.inFault (motionInput a) = true)
        d = { c with setpoint := d.setpoint, reached := d.reached, brake := d.brake, demand := t.demandOf a } ∧
        (c.mode = .braked → d.setpoint = 0) ∧
        (c.mode ≠ .braked → c.overload = none → d.setpoint = p) ∧
        (c.mode ≠ .braked → c.overload ≠ none → 0 ≤ c.setpoint → d.setpoint = max 0 (min c.setpoint p)) ∧
        (c.mode ≠ .braked → c.overload ≠ none → c.setpoint ≤ 0 → d.setpoint = min 0 (max c.setpoint p)) ∧
        (d.reached = true ↔ d.setpoint ≠ c.setpoint ∧ (d.setpoint = s.goal a ∨ d.setpoint = 0)) ∧
        (∀ n, c.brake = some n → d.brake = some (n - 1)) ∧
        (c.brake = none → (rests → d.brake = some 500) ∧ (¬ rests → d.brake = none)))

/-- POWER_ON: every block at its power-on value, as the reset tables give them; nothing waits between the blocks, and the queue of commands
and the model's own count stay (log entries 1 and 3). The values that the spec does not give are the model's (log entries 1, 6 and 11; that a
BRAKED rotary has no torque cap, log entry 73). -/
def Obligations.PowerOnValues : Prop :=
  ∀ s : State, ∃ t, exec .powerOn s = .next t ∧ t = { State.reset with pending := s.pending, free := s.free } ∧
    (t.profile.committed = false ∧ (∀ f, t.profile.value f = none)) ∧ t.slurry = ⟨1000, 0⟩ ∧
    (t.kelly.known = false ∧ (∀ k : Fin 5, t.kelly.interfaces[k] = ⟨.unknown, none⟩) ∧ t.kelly.toolLoad = none ∧ t.kelly.tob = false ∧
      t.kelly.seatSettle = none ∧ t.kelly.releaseSettle = none ∧ t.kelly.springBack = 0 ∧ t.kelly.ropeBaseline = none ∧
      t.kelly.sled = none ∧ t.kelly.angle = none ∧ t.kelly.speed = none ∧ t.kelly.tension = none ∧ t.kelly.torque = none ∧
      t.kelly.crowdForce = none ∧ t.kelly.pressA = none ∧ t.kelly.pressB = none ∧ t.kelly.pressCap = none ∧ t.kelly.pressRod = none ∧
      t.kelly.rotation = none ∧ t.kelly.unseatFailedDue = false ∧ t.kelly.datumState = none ∧ t.kelly.ropeDepth = none ∧ t.kelly.latch = false ∧
      t.kelly.accumulator = 0 ∧ t.kelly.debt = 0) ∧
    (∀ k : Fin 8, t.marks[k] = ⟨0, .down, .note, .unarmed⟩) ∧
    (∀ e : Fin 32, t.ring[e].owner = .console ∧ t.ring[e].completion = none ∧ t.ring[e].order.kind = .none ∧ t.ring[e].order.tag = 0 ∧
      ∀ f, f ≠ OrderField.kind → f ≠ .tag → t.ring[e].order.value f = none) ∧
    t.seq = ⟨.stopped, 0, none⟩ ∧
    (t.limits.set = LimitSet.unknown ∧ t.limits.dry = DryWeights.absent ∧ t.limits.holdInLost = false ∧ t.limits.downforce = none ∧
      t.limits.unseatPhase = false) ∧
    (∀ x, (t.axes.get x).mode = .braked ∧ (t.axes.get x).request = 0 ∧ (t.axes.get x).setpoint = 0 ∧ (t.axes.get x).demand = 0 ∧
      (t.axes.get x).cap = none ∧ (t.axes.get x).brake = none ∧ (t.axes.get x).brakeApplied = true ∧
      (t.axes.get x).atRest = false) ∧
    (t.axes.governor = .free ∧ t.axes.gear = none ∧ t.axes.shift = .idle ∧ t.axes.topState = none ∧ t.axes.queuedShift = none ∧
      t.axes.shiftTimer = none ∧ t.axes.valve = none ∧ t.axes.stallTimer = none ∧ t.axes.relief = none ∧ t.axes.window = none ∧
      t.axes.slackLatch = false ∧ t.axes.overpullLatch = false ∧ t.axes.topLatch = false ∧ t.axes.topCount = none ∧
      t.axes.sledGoal = none ∧ t.axes.keptTension = none ∧ t.axes.limits = LimitSet.unknown ∧ t.axes.union = 0) ∧
    t.env = ⟨none, .stale, some 300, some 2000, false, false⟩ ∧ t.masks = ⟨0, 0, 0⟩ ∧
    (t.faults.committed = false ∧ t.faults.length = 0 ∧ t.faults.state = .clear ∧ t.faults.context = none ∧
      t.faults.lockoutRecord = none ∧ t.faults.lastFault = none ∧ t.faults.pilotCut = true ∧ t.faults.lockoutLine = false ∧
      ∀ v : Fin 22, t.faults.descriptors[v] = ⟨false, minClass (vectorOfNat v.val), 0⟩) ∧
    t.ctl = ⟨.config, none, .idle, false⟩ ∧ t.sup = ⟨false, Vector.replicate 12 ⟨some 50, false⟩⟩ ∧
    (∀ l, (t.links.get l).buffer = [] ∧ (t.links.get l).queue = [] ∧ (t.links.get l).flags = 0 ∧ (t.links.get l).enables = 0 ∧
      (t.links.get l).count = 0 ∧ (t.links.get l).up = true ∧ (t.links.get l).idle = none) ∧
    t.mail = Mail.empty ∧
    t.resetLine = none ∧ t.pending = s.pending ∧ t.free = s.free

/-- A sample of the reset input line: a change from released to asserted takes a unit reset, after which every block stands at its unit-reset
values; any other sample only becomes the line's last state. What waits between the blocks is dropped (log entry 6, not stated), and the
entry in flight keeps the reason its record held (log entry 24, DEDUCED). A response to a UNIT_RESET demand that still waits is dropped with
the queue, and no second reset follows it (log entry 56, the model's choice). -/
def Obligations.ResetLineSample : Prop :=
  ∀ s : State,
    (s.resetLine = some false →
      ∃ t, exec (.resetInputChange true) s = .next t ∧ s.UnitResetTo t ∧ t.resetLine = some true ∧ t.pending = s.pending) ∧
    (s.resetLine ≠ some false → exec (.resetInputChange true) s = .next { s with resetLine := some true }) ∧
    exec (.resetInputChange false) s = .next { s with resetLine := some false }

/-! ### Frames and links -/

/-- A request frame on an UP link is held behind the requests its link holds, or answered BUSY at once when four are held. Another identifier,
or another length, changes nothing. On a DOWN link (log entry 17) the frame is not received. -/
def Obligations.RequestFrameArrives : Prop :=
  ∀ (l : Link) (s : State),
    (∀ tag k o1 o0 sub v2 v1 v0 : Byte, (s.links.get l).up = true →
      let n : Nat := v2.toNat * 65536 + v1.toNat * 256 + v0.toNat
      let v : Int := if n < 8388608 then (n : Int) else (n : Int) - 16777216
      let obj : Nat := o1.toNat * 256 + o0.toNat
      exec (.requestArrival l ⟨0x2C0, [tag, k, o1, o0, sub, v2, v1, v0]⟩) s = .next { s with
        links := s.links.modify l fun c =>
          if c.buffer.length < 4 then { c with buffer := c.buffer ++ [⟨tag, k.toNat, obj, sub.toNat, v⟩] }
          else { c with queue := c.queue ++ [.response ⟨tag, .busy, obj, sub.toNat, 0, false⟩] } }) ∧
    (∀ f : Frame, (s.links.get l).up = true → f.data.length ≠ 8 ∨ (f.id ≠ 0x2C0 ∧ f.id ≠ 0x2C4) →
      exec (.requestArrival l f) s = .next s) ∧
    ∀ f : Frame, (s.links.get l).up = false →
      exec (.requestArrival l f) s = .next { s with links := s.links.modify l fun c => { c with idle := some 250 } }

/-- Frames: a fresh envelope frame on the stability link is clamped, stored and handed on, with STABILITY_STOP raised under the stop latch; on
an UP link a repeat, a frame whose state byte names no stability state, and an envelope frame on another link change nothing, and a DOWN
link receives none but begins its idle wait again (log entries 17 and 30). Timers: freshness run out while FRESH makes it STALE, sets
ENVELOPE_STALE and starts a recomputation, otherwise it changes nothing but the timer; the loss timer, run out while not FRESH, makes it
LOST and raises ENVELOPE_LOST in a working mode under the latch. That a timer that is not due changes nothing is log entry 4, and that the
loss timer waits while the envelope is FRESH is log entry 23; that a latch SET before CONFIG stays SET under a STOP taken there is log entry
57, the model's choice. -/
def Obligations.EnvelopeFramesAndTimers : Prop :=
  ((∀ (s : State) (n st p1 p0 u1 u0 t1 t0 : Byte) (x : Stability),
        (s.links.get .stability).up = true → [Stability.normal, .restricted, .stop][st.toNat]? = some x →
        (∀ r, s.env.record = some r → r.sequence ≠ n.toNat) →
        let r : EnvRecord :=
          { sequence := n.toNat, state := x, push := (p1.toNat * 256 + p0.toNat : Nat), pull := (u1.toNat * 256 + u0.toNat : Nat)
            torque := (t1.toNat * 256 + t0.toNat : Nat) }
        let clamped : EnvRecord := { r with
          push := min r.push (fig s.profile.machine.cMax), pull := min r.pull (fig s.profile.machine.pMax)
          torque := min r.torque (max (fig s.profile.machine.torqueLow) (fig s.profile.machine.torqueHigh)) }
        let stops : Prop := x = .stop ∧ s.ctl.mode ≠ .config ∧ s.env.stopLatch = false
        ∃ t, exec (.envelopeFrame .stability ⟨0x2C4, [n, st, p1, p0, u1, u0, t1, t0]⟩) s = .next t ∧
          t = { s with axes := t.axes, env := t.env, links := t.links, mail := t.mail } ∧
          t.env.record = some (if s.profile.committed = true then clamped else r) ∧ t.env.freshness = .fresh ∧
          t.env.freshTimer = some 300 ∧ t.env.lossTimer = some 2000 ∧
          t.env.lossLatch = (if s.env.freshness = .fresh then s.env.lossLatch else false) ∧
          t.links = (if s.env.freshness = .fresh then s.links else s.links.map fun c => c.setFlags 64) ∧
          (t.env.stopLatch = true ↔ x = .stop ∧ (s.env.stopLatch = true ∨ s.ctl.mode ≠ .config)) ∧
          (stops → t.mail = { s.mail with
            triggers := s.mail.triggers ++ [.envelope], raises := s.mail.raises ++ [⟨.stabilityStop, s.toolDepth, false⟩] }) ∧
          (¬ stops → t.mail = { s.mail with triggers := s.mail.triggers ++ [.envelope] })) ∧
    ∀ (s : State) (n st p1 p0 u1 u0 t1 t0 : Byte),
      let f : Frame := ⟨0x2C4, [n, st, p1, p0, u1, u0, t1, t0]⟩
      ((s.links.get .stability).up = true → ∀ r, s.env.record = some r → r.sequence = n.toNat →
        exec (.envelopeFrame .stability f) s = .next s) ∧
      ((s.links.get .stability).up = true → 2 < st.toNat → exec (.envelopeFrame .stability f) s = .next s) ∧
      (∀ l : Link, l ≠ .stability → (s.links.get l).up = true → exec (.envelopeFrame l f) s = .next s) ∧
      ∀ l : Link, (s.links.get l).up = false → exec (.envelopeFrame l f) s =
        .next { s with links := s.links.modify l fun c => { c with idle := some 250 } }) ∧
  ∀ s : State,
    (s.env.freshTimer ≠ some 0 → exec .freshnessTimerExpiry s = .next s) ∧
    (s.env.freshTimer = some 0 → s.env.freshness = .fresh → exec .freshnessTimerExpiry s = .next { s with
      env := { s.env with freshTimer := none, freshness := .stale }, links := s.links.map fun k => k.setFlags 32
      mail := { s.mail with triggers := s.mail.triggers ++ [.envelope] } }) ∧
    (s.env.freshTimer = some 0 → s.env.freshness ≠ .fresh →
      exec .freshnessTimerExpiry s = .next { s with env := { s.env with freshTimer := none } }) ∧
    (s.env.lossTimer ≠ some 0 ∨ s.env.freshness = .fresh → exec .lossTimerExpiry s = .next s) ∧
    (s.env.lossTimer = some 0 → s.env.freshness ≠ .fresh →
      let raises : Prop := (s.ctl.mode = .operating ∨ s.ctl.mode = .surveyRequired) ∧ s.env.lossLatch = false
      (raises → exec .lossTimerExpiry s = .next { s with
        env := { s.env with lossTimer := none, freshness := .lost, lossLatch := true }
        mail := { s.mail with raises := s.mail.raises ++ [⟨.envelopeLost, s.toolDepth, false⟩] } }) ∧
      (¬ raises → exec .lossTimerExpiry s = .next { s with env := { s.env with lossTimer := none, freshness := .lost } }))

/-- The frame at the head of an UP link's transmit queue goes onto the bus: a response with its eight bytes, a notice with the contents as
they stand and the count risen by one. After the response to a UNIT_RESET the reset is taken. The entry in flight at that reset keeps the
reason its record held (log entry 24), and the reset falls on the sending (log entry 26). -/
def Obligations.QueuedFrameSent : Prop :=
  ∀ (l : Link) (s : State), (s.links.get l).up = true →
    (∀ (r : Response) (rest : List TxFrame), (s.links.get l).queue = .response r :: rest → -8388608 ≤ r.value → r.value ≤ 8388607 →
      let v : Nat := (BitVec.ofInt 24 r.value).toNat
      let code : Nat := [Result.ok, .access, .range, .state, .owned, .noObject, .busy].idxOf r.result
      let f : Frame := ⟨0x2C8, [r.tag, BitVec.ofNat 8 code, BitVec.ofNat 8 (r.object / 256), BitVec.ofNat 8 r.object,
        BitVec.ofNat 8 r.sub, BitVec.ofNat 8 (v / 65536), BitVec.ofNat 8 (v / 256), BitVec.ofNat 8 v]⟩
      (r.resets = false → exec (.responseSent l) s =
        .next { s with links := s.links.modify l fun c => { c with queue := rest, bus := some f } }) ∧
      (r.resets = true → ∃ t, exec (.responseSent l) s = .next t ∧ s.UnitResetTo t ∧ (t.links.get l).bus = some f ∧
        t.pending = s.pending)) ∧
    (∀ rest : List TxFrame, (s.links.get l).queue = .notice :: rest →
      let c := s.links.get l
      let d : Nat := (BitVec.ofInt 24 (s.toolDepth.getD (-8388608))).toNat
      let mode : Nat := [UnitMode.config, .surveyRequired, .operating, .parked, .lockout].idxOf s.ctl.mode
      let seq : Nat := [SeqState.stopped, .running, .suspended, .held, .faulted].idxOf s.seq.state
      let f : Frame := ⟨0x2CC, [BitVec.ofNat 8 (c.flags.toNat / 256), BitVec.ofNat 8 c.flags.toNat, BitVec.ofNat 8 mode,
        BitVec.ofNat 8 seq, BitVec.ofNat 8 (d / 65536), BitVec.ofNat 8 (d / 256), BitVec.ofNat 8 d, c.count + 1]⟩
      exec (.noticeSent l) s =
        .next { s with links := s.links.modify l fun c => { c with queue := rest, bus := some f, count := c.count + 1 } })

/-- A bus-off makes an UP link DOWN, drops what it holds, raises LINK_DOWN and tells the other two links; where the response to a UNIT_RESET
is dropped with the queue, the reset is taken. A DOWN link whose bus has been idle for 250 ms returns. That a bus-off on a DOWN link
begins its wait again is log entry 17, and the reason of an entry in flight at the reset is log entry 24. -/
def Obligations.BusOffAndReturn : Prop :=
  ∀ (l : Link) (s : State),
    ((s.links.get l).up = true →
      (∀ r, TxFrame.response r ∈ (s.links.get l).queue → r.resets = false) →
      ∃ t, exec (.busOff l) s = .next t ∧
        t = { s with links := t.links, mail := { s.mail with raises := s.mail.raises ++ [⟨.linkDown, s.toolDepth, false⟩] } } ∧
        t.links.get l = { s.links.get l with up := false, buffer := [], queue := [], idle := some 250 } ∧
        ∀ m, m ≠ l → t.links.get m = (s.links.get m).setFlags 1024) ∧
    (∀ r, (s.links.get l).up = true → TxFrame.response r ∈ (s.links.get l).queue → r.resets = true →
      ∃ t, exec (.busOff l) s = .next t ∧
        ({ s with links := s.links.modify l fun c => { c with up := false, idle := some 250 } } : State).UnitResetTo t) ∧
    ((s.links.get l).up = false →
      exec (.busOff l) s = .next { s with links := s.links.modify l fun c => { c with idle := some 250 } }) ∧
    ((s.links.get l).up = false → (s.links.get l).idle = some 0 → (s.links.get l).queue = [] →
      ∃ t, exec (.linkReturn l) s = .next t ∧ t = { s with links := t.links } ∧
        t.links.get l = { s.links.get l with
          up := true, idle := none, flags := (s.links.get l).flags ||| 1024
          queue := if ((s.links.get l).flags ||| 1024) &&& (s.links.get l).enables = 0 then [] else [.notice] } ∧
        ∀ m, m ≠ l → t.links.get m = (s.links.get m).setFlags 1024)

/-! ### Requests -/

/-- A READ, taken, is answered OK with the field's value, or STATE with value 0 while the field is absent; it changes nothing else. A request
that fails a check of R177 is answered with the first that fails, value 0, and acts on nothing: an unnamed kind and a DEMAND away from the
demand object (or anything else at it) with ACCESS, an object or a field outside the map with NO_OBJECT, a demand or a field outside the
link's rights with ACCESS. The map names its objects and their sub-indexes row by row (R179), and every field of it reads as the state has
it, codes in the order of their names from 0 and every flag as 1 or 0 (R176): the profile records, N0 and J of a committed profile (R12), the
slurry record; the ring control and the 32 entries, order part, owner and completion part; the model, D, the drive depth and the bottom of
each section formed from the positions (R45, R46); the channels, the limit set, the envelope, the masks; the reaction table, the fault
controller; the marks, the notice objects and the unit mode record. The model's own choices among these: a setpoint between two whole steps
reads as one of them (log entry 8) and a duration between two tenths likewise (log entry 9), the sub-indexes of a mark (log entry 13), the
order of the names in lists that stand in running text (log entry 14, DEDUCED), a figure that is absent in no run and counts as 0 (log entry
32), and TOB as 0 and 1 (log entry 60). -/
def Obligations.ReadsAndRefusals : Prop :=
  (∀ (l : Link) (q : Request) (rest : List Request) (f : Field) (s : State), s.waits l q rest → q.kind = 0 → q.field = some f →
      (∀ v, s.read f = some v → exec (.registerWriteOther l) s = .next (s.answered l q rest .ok v)) ∧
      (s.read f = none → exec (.registerWriteOther l) s = .next (s.answered l q rest .state 0))) ∧
  (∀ (l : Link) (q : Request) (rest : List Request) (s : State), s.waits l q rest →
    let refused (r : Result) : Prop := exec (q.row.command l) s = .next (s.answered l q rest r 0)
    (5 < q.kind → refused .access) ∧
    (q.kind ≤ 5 → objectFields q.object = none → refused .noObject) ∧
    (q.kind < 5 → q.object = 0x7F00 → refused .access) ∧
    (q.kind = 5 → q.object ≠ 0x7F00 → (objectFields q.object).isSome = true → refused .access) ∧
    (q.kind = 5 → q.object = 0x7F00 → demandAt q.sub = none → refused .noObject) ∧
    (∀ d, q.kind = 5 → q.object = 0x7F00 → demandAt q.sub = some d → d.link ≠ l → refused .access) ∧
    (q.kind < 5 → q.object ≠ 0x7F00 → (objectFields q.object).isSome = true → q.field = none → refused .noObject) ∧
    (∀ f, q.kind < 5 → q.field = some f → f.allows l q.kind = false → refused .access)) ∧
  MapHolds ∧
  ∀ s : State, s.ShowsProfile ∧ s.ShowsRing ∧ s.ShowsModel ∧ s.DepthsFormed ∧ s.ShowsChannels ∧ s.ShowsLimits ∧ s.ShowsFaults ∧ s.ShowsUnit

/-- The rights of a link (R180): it reads every field. Of the four write kinds, the recorder may WRITE the profile records, the slurry record
and every mark field but the state; the console may WRITE the order part of an entry; the stability link may WRITE the reaction table;
each link may use all four kinds on its own mask and enables, and WRITE and CLEAR on its own flags; every other field is read-only. Each
demand belongs to one link (R181). -/
def Obligations.RightsOfLinks : Prop :=
  (∀ f l, Field.allows f l 0 = true) ∧
  (∀ (l : Link) (kind : Nat), 1 ≤ kind → kind ≤ 4 →
    let may (f : Field) (right : Prop) : Prop := Field.allows f l kind = true ↔ right
    let recorder : Prop := l = .recorder ∧ kind = 1
    let console : Prop := l = .console ∧ kind = 1
    let stability : Prop := l = .stability ∧ kind = 1
    (∀ k, may (.machine k) recorder) ∧ (∀ k, may (.kelly k) recorder) ∧ (∀ i k, may (.sectionRec i k) recorder) ∧
    (∀ i k, may (.iface i k) recorder) ∧ (∀ i, may (.stationCount i) recorder) ∧ (∀ i j, may (.station i j) recorder) ∧
    (∀ k, may (.tool k) recorder) ∧ (∀ k, may (.slurry k) recorder) ∧
    (∀ m f, f ≠ .state → may (.mark m f) recorder) ∧ (∀ m, may (.mark m .state) False) ∧
    (∀ e f, may (.order e f) console) ∧ (∀ e, may (.owner e) False) ∧ (∀ e sub, may (.completion e sub) False) ∧
    may .tableLength stability ∧ (∀ v, may (.present v) stability) ∧ (∀ v, may (.cls v) stability) ∧ (∀ v, may (.notify v) stability) ∧
    may .tableState False ∧ (∀ m, may (.mask m) (l = m)) ∧ may .union False ∧
    (∀ m, may (.flags m) (l = m ∧ (kind = 1 ∨ kind = 3))) ∧ (∀ m, may (.enables m) (l = m)) ∧ (∀ m, may (.linkState m) False) ∧
    ∀ sub, may (.kellyReadout sub) False ∧ may (.ringControl sub) False ∧ may (.model sub) False ∧ may (.limit sub) False ∧
      may (.envelope sub) False ∧ may (.fault sub) False ∧ may (.modeRec sub) False) ∧
  ∀ (sub : Nat) (d : Demand), demandAt sub = some d ↔
    (sub, d, d.link) ∈ [(0x01, .start, .console), (0x02, .pause, .console), (0x03, .resume, .console), (0x04, .abort, .console),
      (0x05, .flush, .console), (0x06, .handover, .console), (0x07, .unpark, .console), (0x10, .commitReactions, .stability),
      (0x11, .restore, .stability), (0x12, .unitReset, .stability), (0x13, .clearLockoutRecord, .stability),
      (0x20, .commitProfile, .recorder), (0x21, Demand.reconfigure, Link.recorder)]

/-- A recorder WRITE of a scalar profile field: refused with STATE outside CONFIG or while COMMITTED, with RANGE outside the field's range;
otherwise stored and echoed, the field present, every other field and the profile state as they were. A recorder WRITE of a station count
of 1 to 8 makes the stations at or above it absent and keeps those below; a WRITE of a station is stored only below the present count, and
refused with RANGE elsewhere; both, whatever the value and the count, are refused with STATE outside CONFIG or while COMMITTED. Every other
field stays. The ranges are those of R4 to R9, row by row. -/
def Obligations.ProfileWritten : Prop :=
  (∀ (q : Request) (rest : List Request) (f : Field) (lo hi : Int) (s : State), s.waits .recorder q rest → q.kind = 1 →
      q.field = some f → (∀ i, f ≠ .stationCount i) → (∀ i j, f ≠ .station i j) → profileRange f = some (lo, hi) →
      (s.ctl.mode ≠ .config ∨ s.profile.committed = true →
        exec (.profileFieldWrite .recorder) s = .next (s.answered .recorder q rest .state 0)) ∧
      (s.ctl.mode = .config → s.profile.committed = false → (q.value < lo ∨ hi < q.value) →
        exec (.profileFieldWrite .recorder) s = .next (s.answered .recorder q rest .range 0)) ∧
      (s.ctl.mode = .config → s.profile.committed = false → lo ≤ q.value → q.value ≤ hi →
        ∃ p, exec (.profileFieldWrite .recorder) s = .next { s.answered .recorder q rest .ok q.value with profile := p } ∧
          p.value f = some q.value ∧ p.committed = false ∧ ∀ g, g ≠ f → p.value g = s.profile.value g)) ∧
  (∀ (q : Request) (rest : List Request) (i : Fin 5) (s : State), s.waits .recorder q rest → q.kind = 1 →
    s.ctl.mode ≠ .config ∨ s.profile.committed = true →
    (q.field = some (.stationCount i) → exec (.stationCountWrite .recorder) s = .next (s.answered .recorder q rest .state 0)) ∧
    ∀ j : Fin 8, q.field = some (.station i j) → exec (.stationWrite .recorder) s = .next (s.answered .recorder q rest .state 0)) ∧
  (∀ p ∈ ([(1000, 15000), (-25000, 0), (100, 30000), (100, 30000), (100, 30000), (100, 15000), (100, 15000), (1, 2000), (1, 2000), (10, 600),
      (10, 600), (10, 1200), (1, 5000), (1, 5000), (-25000, 0), (-25000, 0)] : List (Int × Int)).zipIdx,
    ∀ k : Fin 16, k.val = p.2 → profileRange (.machine k) = some p.1) ∧
  (∀ p ∈ ([(2, 5), (80, 400), (20, 80), (200, 1000), (1000, 2000000), (20, 80)] : List (Int × Int)).zipIdx,
    ∀ k : Fin 6, k.val = p.2 → profileRange (.kelly k) = some p.1) ∧
  (∀ p ∈ ([(2000, 20000), (100, 20000), (0, 5000), (100, 15000), (-5000, 30000)] : List (Int × Int)).zipIdx,
    ∀ i k : Fin 5, k.val = p.2 → profileRange (.sectionRec i k) = some p.1) ∧
  (∀ p ∈ ([(1000, 20000), (100, 20000), (100, 20000)] : List (Int × Int)).zipIdx,
    ∀ (i : Fin 5) (k : Fin 3), k.val = p.2 → profileRange (.iface i k) = some p.1) ∧
  (∀ p ∈ ([(0, 30000), (0, 10000), (300, 5000)] : List (Int × Int)).zipIdx,
    ∀ k : Fin 3, k.val = p.2 → profileRange (.tool k) = some p.1) ∧
  ∀ (q : Request) (rest : List Request) (i : Fin 5) (s : State), s.waits .recorder q rest → q.kind = 1 →
    s.ctl.mode = .config → s.profile.committed = false →
    (q.field = some (.stationCount i) → 1 ≤ q.value → q.value ≤ 8 →
      ∃ p, exec (.stationCountWrite .recorder) s = .next { s.answered .recorder q rest .ok q.value with profile := p } ∧
        p.value (.stationCount i) = some q.value ∧ p.committed = false ∧
        (∀ j : Fin 8, p.value (.station i j) = if (j.val : Int) < q.value then s.profile.value (.station i j) else none) ∧
        ∀ g, g ≠ .stationCount i → (∀ j, g ≠ .station i j) → p.value g = s.profile.value g) ∧
    (q.field = some (.stationCount i) → (q.value < 1 ∨ 8 < q.value) →
      exec (.stationCountWrite .recorder) s = .next (s.answered .recorder q rest .range 0)) ∧
    (∀ (j : Fin 8) (n : Int), q.field = some (.station i j) → s.profile.value (.stationCount i) = some n → (j.val : Int) < n →
      0 ≤ q.value → q.value ≤ 20000 →
      ∃ p, exec (.stationWrite .recorder) s = .next { s.answered .recorder q rest .ok q.value with profile := p } ∧
        p.value (.station i j) = some q.value ∧ p.committed = false ∧ ∀ g, g ≠ .station i j → p.value g = s.profile.value g) ∧
    (∀ j : Fin 8, q.field = some (.station i j) →
      (∀ n, s.profile.value (.stationCount i) = some n → n ≤ (j.val : Int)) ∨ q.value < 0 ∨ 20000 < q.value →
      exec (.stationWrite .recorder) s = .next (s.answered .recorder q rest .range 0))

/-- A recorder WRITE of a slurry field is clamped, stored and answered with the stored value, in every unit mode, and a recomputation is
triggered. Recorder WRITEs of a mark: the depth is stored and arms the mark, the disarm field makes it UNARMED, a direction or an action
changes that field alone; a value outside the field's range is refused with RANGE. That a disarm write takes any value and is echoed is
log entry 13 (DESIGN CHOICE). -/
def Obligations.SlurryAndMarksWritten : Prop :=
  (∀ (q : Request) (rest : List Request) (s : State), s.waits .recorder q rest →
      (q.names 1 0x1400 1 →
        let v := max 1000 (min 1400 q.value)
        exec (.slurryWrite .recorder) s = .next { s.answered .recorder q rest .ok v with
          slurry := ⟨v, s.slurry.level⟩, mail := { s.mail with triggers := s.mail.triggers ++ [.slurry] } }) ∧
      (q.names 1 0x1400 2 →
        let v := max (-5000) (min 30000 q.value)
        exec (.slurryWrite .recorder) s = .next { s.answered .recorder q rest .ok v with
          slurry := ⟨s.slurry.density, v⟩, mail := { s.mail with triggers := s.mail.triggers ++ [.slurry] } })) ∧
  ∀ (q : Request) (rest : List Request) (k : Fin 8) (s : State), s.waits .recorder q rest → q.kind = 1 →
    let m := s.marks[k]
    let stored (m' : Mark) : State := { s.answered .recorder q rest .ok q.value with marks := s.marks.set k m' }
    let ranged : State := s.answered .recorder q rest .range 0
    (q.field = some (.mark k .depth) → exec (.markDepthWrite .recorder) s = .next
      (if -25000 ≤ q.value ∧ q.value ≤ 150000 then stored { m with depth := q.value, state := .armed } else ranged)) ∧
    (q.field = some (.mark k .disarm) → exec (.markDisarmWrite .recorder) s = .next (stored { m with state := .unarmed })) ∧
    (q.field = some (.mark k .direction) → exec (.markFieldWrite .recorder) s = .next
      (if q.value = 0 then stored { m with direction := .down } else if q.value = 1 then stored { m with direction := .up }
        else ranged)) ∧
    (q.field = some (.mark k .action) → exec (.markFieldWrite .recorder) s = .next
      (if q.value = 0 then stored { m with action := .note } else if q.value = 1 then stored { m with action := .endStroke }
        else if q.value = 2 then stored { m with action := .hold } else ranged))

/-- A console WRITE of an order parameter, the tag or the gear: OWNED on a UNIT-owned entry, STATE where the kind or the bore mode does not
use the field, RANGE outside its range; otherwise that field alone changes. The ranges and the kinds that use a field are those of R63, row by
row; a two-name field takes 0 and 1. -/
def Obligations.OrderFieldWritten : Prop :=
  (∀ p ∈ ([(.tag, 0, 65535, [.none, .descend, .hoist, .sled, .engage, .release, .bore, .spin, .dwell, .survey, .park]),
      (.gear, 0, 1, [.bore, .spin]), (.targetDepth, -25000, 150000, [.descend, .hoist]), (.toTop, 0, 1, [.hoist]),
      (.winchSpeed, 1, 1200, [.descend, .hoist]), (.sledTarget, 0, 15000, [.sled]), (.sledSpeed, 1, 1000, [.sled]),
      (.advance, 1, 20000, [.bore]), (.rotarySpeed, 1, 600, [.bore, .spin]), (.cycles, 1, 8, [.spin]), (.dwell, 1, 6000, [.dwell]),
      (.parkKind, 0, 1, [.park])] : List (OrderField × Int × Int × List Kind)),
    orderRange p.1 = (p.2.1, p.2.2.1) ∧ ∀ o : Order, o.uses p.1 = true ↔ o.kind ∈ p.2.2.2) ∧
  (∀ p ∈ ([(.push, 30000, .locked), (.downforce, 30000, .hanging), (.autoRelease, 1, .locked)] : List (OrderField × Int × BoreMode)),
    orderRange p.1 = (0, p.2.1) ∧ ∀ o : Order, o.uses p.1 = true ↔ o.kind = .bore ∧ o.boreMode = some p.2.2) ∧
  ∀ (q : Request) (rest : List Request) (e : Fin 32) (f : OrderField) (s : State), s.waits .console q rest → q.kind = 1 →
    q.field = some (.order e f) → f.isPlain = true →
    let x := s.ring[e]
    (x.owner = .unit → exec (.orderFieldWrite .console) s = .next (s.answered .console q rest .owned 0)) ∧
    (x.owner = .console → x.order.uses f = false → exec (.orderFieldWrite .console) s = .next (s.answered .console q rest .state 0)) ∧
    (x.owner = .console → x.order.uses f = true → (q.value < (orderRange f).1 ∨ (orderRange f).2 < q.value) →
      exec (.orderFieldWrite .console) s = .next (s.answered .console q rest .range 0)) ∧
    (x.owner = .console → x.order.uses f = true → (orderRange f).1 ≤ q.value → q.value ≤ (orderRange f).2 →
      ∃ o, exec (.orderFieldWrite .console) s =
          .next { s.answered .console q rest .ok q.value with ring := s.ring.set e { x with order := o } } ∧
        o.value f = some q.value ∧ ∀ g, g ≠ f → o.value g = x.order.value g)

/-- A console WRITE of the kind or of the bore mode of a CONSOLE-owned entry: a different kind leaves the tag alone and blanks the rest, a
different bore mode makes the push request, the downforce request and the auto-release absent, the same one changes nothing. A console
WRITE of a plan field of a CONSOLE-owned ENGAGE, its value in range: stored where it lists no interface twice, and refused with RANGE
where it would. Each is refused with OWNED on a UNIT-owned entry, with STATE on an entry whose kind does not use the field, and with RANGE
outside its range. -/
def Obligations.KindAndPlanWritten : Prop :=
  (∀ (q : Request) (rest : List Request) (e : Fin 32) (s : State), s.waits .console q rest → q.kind = 1 →
      let x := s.ring[e]
      let stored (o : Order) : State := { s.answered .console q rest .ok q.value with ring := s.ring.set e { x with order := o } }
      (∀ k : Kind, x.owner = .console → q.field = some (.order e .kind) → q.value = codeIn kindList k →
        exec (.kindWrite .console) s = .next (stored (if x.order.kind = k then x.order else Order.blank k x.order.tag))) ∧
      (q.field = some (.order e .kind) → x.owner = .unit →
        exec (.kindWrite .console) s = .next (s.answered .console q rest .owned 0)) ∧
      (q.field = some (.order e .kind) → x.owner = .console → (q.value < 0 ∨ 10 < q.value) →
        exec (.kindWrite .console) s = .next (s.answered .console q rest .range 0)) ∧
      (∀ m : BoreMode, x.owner = .console → x.order.kind = .bore → q.field = some (.order e .boreMode) →
        q.value = codeIn boreModeList m →
        exec (.boreModeWrite .console) s = .next (stored (if x.order.boreMode = some m then x.order
          else { x.order with boreMode := some m, push := none, downforce := none, autoRelease := none }))) ∧
      (q.field = some (.order e .boreMode) → x.owner = .console → x.order.kind ≠ .bore →
        exec (.boreModeWrite .console) s = .next (s.answered .console q rest .state 0)) ∧
      (q.field = some (.order e .boreMode) → x.owner = .unit →
        exec (.boreModeWrite .console) s = .next (s.answered .console q rest .owned 0)) ∧
      (q.field = some (.order e .boreMode) → x.owner = .console → x.order.kind = .bore → (q.value < 0 ∨ 1 < q.value) →
        exec (.boreModeWrite .console) s = .next (s.answered .console q rest .range 0)) ∧
      ∀ f : OrderField, (f = .planLength ∨ (∃ p, f = .pairIface p) ∨ ∃ p, f = .pairStation p) → q.field = some (.order e f) →
        let high : Int := if f = .planLength then 5 else if ∃ p, f = .pairIface p then 4 else 7
        (x.owner = .unit → exec (.planWrite .console) s = .next (s.answered .console q rest .owned 0)) ∧
        (x.owner = .console → x.order.kind ≠ .engage → exec (.planWrite .console) s = .next (s.answered .console q rest .state 0)) ∧
        (x.owner = .console → x.order.kind = .engage → (q.value < (if f = .planLength then 1 else 0) ∨ high < q.value) →
          exec (.planWrite .console) s = .next (s.answered .console q rest .range 0))) ∧
  ∀ (q : Request) (rest : List Request) (e : Fin 32) (s : State), s.waits .console q rest → q.kind = 1 →
    s.ring[e].owner = .console → s.ring[e].order.kind = .engage → s.ring[e].order.PlanDistinct →
    let o := s.ring[e].order
    let outcome (o' : Order) : Prop :=
      (o'.PlanDistinct → exec (.planWrite .console) s =
        .next { s.answered .console q rest .ok q.value with ring := s.ring.set e { s.ring[e] with order := o' } }) ∧
      (¬ o'.PlanDistinct → exec (.planWrite .console) s = .next (s.answered .console q rest .range 0))
    (q.field = some (.order e .planLength) → 1 ≤ q.value → q.value ≤ 5 → outcome { o with planLength := some q.value }) ∧
    (∀ p : Fin 5, q.field = some (.order e (.pairIface p)) → 0 ≤ q.value → q.value ≤ 4 →
      (∀ n, o.planLength = some n → (p.val : Int) < n) →
      outcome { o with pairs := o.pairs.set p { o.pairs[p] with iface := some q.value } }) ∧
    (∀ p : Fin 5, q.field = some (.order e (.pairStation p)) → 0 ≤ q.value → q.value ≤ 7 →
      exec (.planWrite .console) s = .next { s.answered .console q rest .ok q.value with
        ring := s.ring.set e { s.ring[e] with order := { o with pairs := o.pairs.set p { o.pairs[p] with station := some q.value } } } })

/-- A stability WRITE of the reaction table: refused with STATE once committed; a class is stored as the higher of itself and the vector's
minimum and answered as stored; the length, a present flag and a notify set are stored as written. The minimum classes are those of R149,
vector by vector. -/
def Obligations.ReactionTableWritten : Prop :=
  (∀ p ∈ ([(.ropeEncoder, .halt), (.rotaryEncoder, .halt), (.sledSensor, .halt), (.pressureSensor, .halt), (.datumDiscrepancy, .hold),
      (.datumOverdue, .announce), (.envelopeLost, .halt), (.stabilityStop, .halt), (.seatEarly, .hold), (.seatAttempts, .hold),
      (.unseatFailed, .hold), (.chainLost, .halt), (.boreStall, .announce), (.noAdvance, .announce), (.overpull, .halt), (.slackRope, .hold),
      (.topStop, .halt), (.gearShift, .hold), (.surveyFailed, .hold), (.parkDisturbed, .hold), (.linkDown, .hold), (.holdInLost, .hold)] :
      List (FaultVector × ReactionClass)).zipIdx, vectorOfNat p.2 = p.1.1 ∧ minClass p.1.1 = p.1.2) ∧
  ∀ (q : Request) (rest : List Request) (v : Fin 22) (s : State), s.waits .stability q rest → q.kind = 1 →
    let refused (r : Result) : State := s.answered .stability q rest r 0
    let d := s.faults.descriptors[v]
    let stored (x : Int) (d' : Descriptor) : State :=
      { s.answered .stability q rest .ok x with faults := { s.faults with descriptors := s.faults.descriptors.set v d' } }
    (s.faults.committed = true →
      (q.field = some (.cls v) → exec (.reactionClassWrite .stability) s = .next (refused .state)) ∧
      (q.field = some .tableLength ∨ q.field = some (.present v) ∨ q.field = some (.notify v) →
        exec (.reactionTableWrite .stability) s = .next (refused .state))) ∧
    (s.faults.committed = false →
      (∀ c : ReactionClass, q.field = some (.cls v) → q.value = codeIn classList c →
        let c' := if c.rank < (minClass (vectorOfNat v.val)).rank then minClass (vectorOfNat v.val) else c
        exec (.reactionClassWrite .stability) s = .next (stored (codeIn classList c') { d with cls := c' })) ∧
      (q.field = some (.cls v) → (q.value < 0 ∨ 3 < q.value) → exec (.reactionClassWrite .stability) s = .next (refused .range)) ∧
      (q.field = some .tableLength → exec (.reactionTableWrite .stability) s = .next
        (if 1 ≤ q.value ∧ q.value ≤ 22 then
          { s.answered .stability q rest .ok q.value with faults := { s.faults with length := q.value.toNat } } else refused .range)) ∧
      (q.field = some (.present v) → exec (.reactionTableWrite .stability) s = .next
        (if q.value = 0 then stored 0 { d with present := false } else if q.value = 1 then stored 1 { d with present := true }
          else refused .range)) ∧
      (q.field = some (.notify v) → exec (.reactionTableWrite .stability) s = .next
        (if 0 ≤ q.value ∧ q.value ≤ 7 then stored q.value { d with notify := BitVec.ofInt 3 q.value } else refused .range)))

/-- WRITE, SET, CLEAR and TOGGLE of a link's own inhibit mask: the mask changes as the kind says, is answered as it then stands, and a changed
union is handed to the channels and the sequencer; a value outside 0 to 65,535 is refused with RANGE. -/
def Obligations.InhibitMaskRequests : Prop :=
  ∀ (l : Link) (q : Request) (rest : List Request) (s : State), s.waits l q rest → q.object = 0x4100 → q.sub = ownSub l →
    let m := s.masks.get l
    let v : Mask := BitVec.ofInt 16 q.value
    (0 ≤ q.value → q.value ≤ 65535 →
      (q.kind = 1 → exec (.inhibitWrite l) s = .next (s.maskBecomes l q rest v)) ∧
      (q.kind = 2 → exec (.inhibitSet l) s = .next (s.maskBecomes l q rest (m ||| v))) ∧
      (q.kind = 3 → exec (.inhibitClear l) s = .next (s.maskBecomes l q rest (m &&& ~~~v))) ∧
      (q.kind = 4 → exec (.inhibitToggle l) s = .next (s.maskBecomes l q rest (m ^^^ v)))) ∧
    (q.value < 0 ∨ 65535 < q.value →
      let refused : State := s.answered l q rest .range 0
      (q.kind = 1 → exec (.inhibitWrite l) s = .next refused) ∧ (q.kind = 2 → exec (.inhibitSet l) s = .next refused) ∧
      (q.kind = 3 → exec (.inhibitClear l) s = .next refused) ∧ (q.kind = 4 → exec (.inhibitToggle l) s = .next refused))

/-- Requests on a link's own notice flags and enable set: CLEAR removes the value's flags, WRITE of flags keeps those set in the value, the
enables take WRITE, SET, CLEAR and TOGGLE; each is answered with the set after the change, and no notice becomes due. Setting flags on a
link: they join those set; a notice joins the end of the transmit queue of an UP link exactly when an enabled flag went from clear to set
and no notice waits. That a negative value is refused with RANGE, as one above 4,095 is, is log entry 33 (DEDUCED). -/
def Obligations.NoticeFlagsAndNotices : Prop :=
  (∀ (l : Link) (q : Request) (rest : List Request) (s : State), s.waits l q rest → q.object = 0x7000 →
      let c := s.links.get l
      let v : FlagSet := BitVec.ofInt 12 q.value
      (0 ≤ q.value → q.value ≤ 4095 → q.sub = ownSub l →
        (q.kind = 1 → exec (.noticeFlagsWrite l) s = .next (s.flagsBecome l q rest (c.flags &&& v))) ∧
        (q.kind = 3 → exec (.noticeFlagsClear l) s = .next (s.flagsBecome l q rest (c.flags &&& ~~~v)))) ∧
      (0 ≤ q.value → q.value ≤ 4095 → q.sub = 0x10 + ownSub l →
        (q.kind = 1 → exec (.noticeEnablesWrite l) s = .next (s.enablesBecome l q rest v)) ∧
        (q.kind = 2 → exec (.noticeEnablesSet l) s = .next (s.enablesBecome l q rest (c.enables ||| v))) ∧
        (q.kind = 3 → exec (.noticeEnablesClear l) s = .next (s.enablesBecome l q rest (c.enables &&& ~~~v))) ∧
        (q.kind = 4 → exec (.noticeEnablesToggle l) s = .next (s.enablesBecome l q rest (c.enables ^^^ v)))) ∧
      (4095 < q.value ∨ q.value < 0 →
        let refused : State := s.answered l q rest .range 0
        (q.sub = ownSub l → q.kind = 1 → exec (.noticeFlagsWrite l) s = .next refused) ∧
        (q.sub = ownSub l → q.kind = 3 → exec (.noticeFlagsClear l) s = .next refused) ∧
        (q.sub = 0x10 + ownSub l →
          (q.kind = 1 → exec (.noticeEnablesWrite l) s = .next refused) ∧ (q.kind = 2 → exec (.noticeEnablesSet l) s = .next refused) ∧
          (q.kind = 3 → exec (.noticeEnablesClear l) s = .next refused) ∧
          (q.kind = 4 → exec (.noticeEnablesToggle l) s = .next refused)))) ∧
  ∀ (c : LinkCtl) (v : FlagSet),
    c.setFlags v = { c with
      flags := c.flags ||| v
      queue := if c.up = true ∧ TxFrame.notice ∉ c.queue ∧ v &&& ~~~c.flags &&& c.enables ≠ 0 then c.queue ++ [.notice] else c.queue }

/-! ### Demands -/

/-- START in STOPPED, and RESUME in HELD or FAULTED, while the mode is SURVEY_REQUIRED or OPERATING and the fault controller CLEAR: an entry
that is CONSOLE-owned at the next index suspends the sequencer; a UNIT-owned one that fails a start check (the mode, an inhibit, the
kind's own checks in their order) is returned REFUSED with the reason of the first that fails, and the sequencer is HELD past it. An
ENGAGE taken in the release settle time makes its own checks later. Otherwise the demand is refused with STATE. The kinds' own directions are
those of R69, row by row. An absent W_total counts as 0 (log entry 47), as does a figure that is absent in no run (log entry 32). -/
def Obligations.StartAndResume : Prop :=
  (∀ o : Order,
    (∀ p ∈ ([(.descend, .descend), (.sled, .sledMove), (.engage, .engage), (.release, .release), (.spin, .spin), (.survey, .survey),
        (.park, .park)] : List (Kind × Direction)), o.kind = p.1 → o.ownDirection = some p.2) ∧
    (o.kind = .bore → o.boreMode = some .locked → o.ownDirection = some .boreLocked) ∧
    (o.kind = .bore → o.boreMode = some .hanging → o.ownDirection = some .boreHanging) ∧
    (o.kind = .hoist ∨ o.kind = .dwell → o.ownDirection = none)) ∧
  ∀ (q : Request) (rest : List Request) (s : State) (sub : Nat), s.demands .console sub q rest → (sub = 1 ∨ sub = 3) →
    let c : Instr := if sub = 1 then .start .console else .resume .console
    let from_ : Prop := if sub = 1 then s.seq.state = .stopped else s.seq.state = .held ∨ s.seq.state = .faulted
    let may : Prop := (s.ctl.mode = .surveyRequired ∨ s.ctl.mode = .operating) ∧ s.faults.state = .clear
    let k := s.seq.next
    let x := s.ring[k]
    (¬ (from_ ∧ may) → exec c s = .next (s.answered .console q rest .state 0)) ∧
    (from_ → may → x.owner = .console →
      exec c s = .next (({ s.answered .console q rest .ok 0 with seq := { s.seq with state := .suspended } } : State).setFlagsAll flagSeqState)) ∧
    (∀ r, from_ → may → x.owner = .unit → s.Fails x.order r →
      ∃ t, exec c s = .next t ∧
        t = { s with
          links := t.links, mail := t.mail, axes := t.axes, limits := t.limits
          ctl := if x.order.kind = .park then { s.ctl with latchRequest := false } else s.ctl
          kelly := { s.kelly with unseatFailedDue := false }
          seq := ⟨.held, k + 1, none⟩
          ring := s.ring.set k ⟨.console, x.order, some ⟨.refused, some r,
            some { Figures.fresh s.toolDepth (decide (2 ≤ s.kelly.debt)) with endDepth := s.toolDepth }⟩⟩ } ∧
        t.links = (((s.answered .console q rest .ok 0).setFlagsAll flagSeqState).setFlagsAll flagStrokeDone).links)

/-- START in STOPPED, and RESUME in HELD or FAULTED, with the fault controller CLEAR: a UNIT-owned entry at the next index that passes its start
checks becomes the stroke in flight, in its first phase, with its working values clamped (R82): the winch speed to the machine's, the rotary
speed to the gear's, the sled target to the sled window, the advance of a LOCKED BORE to the sled travel left and of a HANGING BORE to its
allowance (R97); CLAMPED is set where one was. Its channels get that phase's requests. A DWELL, a DESCEND, a HOIST, a SLED, an ENGAGE with and
without its settle wait, both BOREs and a SPIN with and without a gear shift, a SURVEY, and both PARKs. A RELEASE stands in CROWD_DOWN while the
crowd setpoint is not zero, and in UNSEATING, its rotation begun, where it is zero at once, in any crowd mode (R29); the setpoint stays as it was
within its bounds, and is zero while the crowd is BRAKED. A LATCH PARK begun with the hoist and the rotary BRAKED and the crowd setpoint at its
request or its bound is DONE at once, its references recorded (R172), an angle not yet sampled as none (log entry 77). Where the ending of the
first motion phase holds already, in the order of R84, its outcome is decided and no axis is set in motion: BOTTOM or TARGET of a DESCEND, TOP or
TARGET of a HOIST, TARGET of a SLED, SLED_END or TARGET of a BORE with no advance left. That a crowd in POSITION stands at request zero until its
first sled sample is log entry 51, the model's choice, and so is a turn begun before any angle sample, which records no start angle (log entry
76). A BORE whose rotary carries its setpoint over in SPEED keeps it, and one that stands at the working speed already reports it, so that
RAMP_UP ends. -/
def Obligations.StrokeBegins : Prop :=
  ∀ (q : Request) (rest : List Request) (s : State) (sub : Nat), s.demands .console sub q rest → (sub = 1 ∨ sub = 3) →
    let c : Instr := if sub = 1 then .start .console else .resume .console
    let from_ : Prop := if sub = 1 then s.seq.state = .stopped else s.seq.state = .held ∨ s.seq.state = .faulted
    let k := s.seq.next
    let o := s.ring[k].order
    from_ → s.faults.state = .clear → s.ring[k].owner = .unit → s.MayBegin o → s.kelly.rotation = none → s.ctl.reseat = .idle → s.axes.relief = none →
    s.axes.governor = .free →
    ∃ t x, exec c s = .next t ∧
      t = { s with
        links := t.links, mail := t.mail, axes := t.axes, kelly := t.kelly, limits := t.limits, ctl := t.ctl
        seq := ⟨.running, k, some x⟩ } ∧
      (o.kind ≠ .survey → t.links = ((s.answered .console q rest .ok 0).setFlagsAll flagSeqState).links) ∧
      x.index = k ∧ x.met = false ∧ x.inhibited = false ∧ s.Begins o t x

/-- PAUSE raises the end state of the stroke in flight to HELD, makes a SUSPENDED sequencer HELD, and is refused with STATE in STOPPED and
FAULTED. FLUSH, in STOPPED alone, returns every UNIT-owned entry NOT_RUN. -/
def Obligations.PauseAndFlush : Prop :=
  ∀ (q : Request) (rest : List Request) (s : State),
    let ok : State := s.answered .console q rest .ok 0
    let no : State := s.answered .console q rest .state 0
    (s.demands .console 2 q rest →
      (∀ x, s.seq.state = .running → s.seq.stroke = some x → exec (.pause .console) s = .next
        { ok with seq := { s.seq with stroke := some { x with endState := if x.endState = .running then .held else x.endState } } }) ∧
      (s.seq.state = .suspended → exec (.pause .console) s = .next
        (({ ok with seq := { s.seq with state := .held } } : State).setFlagsAll flagSeqState)) ∧
      (s.seq.state = .held → exec (.pause .console) s = .next ok) ∧
      (s.seq.state = .stopped ∨ s.seq.state = .faulted → exec (.pause .console) s = .next no)) ∧
    (s.demands .console 5 q rest →
      let returned : Vector Entry 32 := s.ring.map fun e =>
        if e.owner = .unit then ⟨.console, e.order, some ⟨.notRun, none, none⟩⟩ else e
      (s.seq.state = .stopped → (∃ k : Fin 32, s.ring[k].owner = .unit) →
        exec (.flush .console) s = .next (({ ok with ring := returned } : State).setFlagsAll flagStrokeDone)) ∧
      (s.seq.state = .stopped → (∀ k : Fin 32, s.ring[k].owner = .console) → exec (.flush .console) s = .next ok) ∧
      (s.seq.state ≠ .stopped → exec (.flush .console) s = .next no))

/-- ABORT with no stroke in flight stops the sequencer. With one, it decides ABORTED unless the stroke was refused or a reaction decided it,
raises the end state to STOPPED, and gives the stroke's remaining motion a normal stop, also while the rotary of a confirmed rotation comes
to rest; a seating attempt that turns is crept back; an unseating rotation that turns, and a creep back of either sense, runs on as it did.
That the hoist and the crowd are left as they are until such a rotation has ended, and stop at once only after a confirmation, is log entry 59,
and that the stroke keeps the reason its record held beside ABORTED is log entry 64: the model's choices (DESIGN CHOICE). -/
def Obligations.AbortDemand : Prop :=
  ∀ (q : Request) (rest : List Request) (s : State), s.demands .console 4 q rest →
    let ok : State := s.answered .console q rest .ok 0
    let aborted (x : Stroke) : Option Outcome :=
      if x.outcome = some .refused ∨ x.outcome = some .heldByFault ∨ x.outcome = some .faulted then x.outcome else some .aborted
    let ends (x : Stroke) : EndState := if x.endState = .faulted then .faulted else .stopped
    (s.seq.state = .stopped → exec (.abort .console) s = .next ok) ∧
    (s.seq.state ≠ .stopped → s.seq.state ≠ .running → exec (.abort .console) s =
      .next (({ ok with seq := { s.seq with state := .stopped } } : State).setFlagsAll flagSeqState)) ∧
    (∀ x, s.seq.state = .running → s.seq.stroke = some x → s.kelly.rotation = none → s.ctl.reseat = .idle →
      ∃ t, exec (.abort .console) s = .next t ∧ t = { ok with axes := t.axes, seq := { s.seq with stroke := t.seq.stroke } } ∧
        (∃ y, t.seq.stroke = some y ∧ y.outcome = aborted x ∧ y.endState = ends x ∧ y.closed = true ∧ y.met = true ∧ y.reason = x.reason ∧
          y.figures = x.figures ∧ y.index = x.index ∧ y.phase = x.phase) ∧
        (s.axes.governor = .free ∨ s.axes.governor = .normal →
          t.axes.hoist.request = 0 ∧ t.axes.rotary.request = 0 ∧ (s.ctl.latchRequest = false → t.axes.crowd.request = 0))) ∧
    (∀ x r, s.seq.state = .running → s.seq.stroke = some x → s.kelly.rotation = some r → r.sense = .seating → r.stage = .turning →
      r.interrupted = false → s.ctl.reseat = .idle → s.axes.relief = none →
      ∃ t, exec (.abort .console) s = .next t ∧ t = { ok with
          axes := t.axes, seq := { s.seq with stroke := t.seq.stroke }
          kelly := { s.kelly with rotation := some { r with stage := .back, aborted := true } } } ∧
        (∃ y, t.seq.stroke = some y ∧
          y.outcome = aborted x ∧ y.endState = ends x ∧ y.phase = .creepBack ∧ y.closed = x.closed) ∧
        (s.axes.governor = .free → t.axes.rotary.mode = .creep ∧ t.axes.rotary.request = -(creepSpeed * fine))) ∧
    (∀ x r, s.seq.state = .running → s.seq.stroke = some x → s.kelly.rotation = some r →
      (r.sense = .unseating ∧ r.stage = .turning) ∨ r.stage = .back → r.interrupted = false → s.ctl.reseat = .idle → s.axes.relief = none →
      exec (.abort .console) s = .next { ok with
        seq := { s.seq with stroke := some { x with outcome := aborted x, endState := ends x, met := true } }
        kelly := { s.kelly with rotation := some { r with aborted := true } } }) ∧
    (∀ x r, s.seq.state = .running → s.seq.stroke = some x → s.kelly.rotation = some r → r.stage = .resting → r.interrupted = false →
      s.ctl.reseat = .idle → s.axes.relief = none →
      ∃ t, exec (.abort .console) s = .next t ∧ t = { ok with
          axes := t.axes, seq := { s.seq with stroke := t.seq.stroke }
          kelly := { s.kelly with rotation := t.kelly.rotation, springBack := t.kelly.springBack } } ∧
        (∃ y, t.seq.stroke = some y ∧ y.outcome = aborted x ∧ y.endState = ends x ∧ y.closed = true ∧ y.met = true ∧ y.reason = x.reason ∧
          y.figures = x.figures) ∧
        (s.axes.governor = .free ∨ s.axes.governor = .normal →
          t.axes.hoist.request = 0 ∧ t.axes.rotary.request = 0 ∧ (s.ctl.latchRequest = false → t.axes.crowd.request = 0)))

/-- HANDOVER: RANGE outside 0 to 31, OWNED on a UNIT-owned entry, STATE on kind NONE, STATE with the lowest absent required sub-index;
otherwise the entry becomes UNIT-owned without its completion part, and a SUSPENDED sequencer that waited for it becomes RUNNING and takes it:
REFUSED and HELD past it where it fails a start check, else begun, whatever its kind. The required fields are those of R66, row by row. A
crowd in POSITION that stands at request zero until its first sled sample is log entry 51 (DESIGN CHOICE), and an absent W_total or figure
counts as 0 (log entries 47 and 32). -/
def Obligations.HandoverDemand : Prop :=
  (∀ o : Order, ∀ p : Nat × OrderField, p ∈ o.required ↔
    (o.kind = .descend ∧ p ∈ [(0x10, .targetDepth), (0x12, .winchSpeed)]) ∨
    (o.kind = .hoist ∧ (p = (0x12, .winchSpeed) ∨ (o.toTop ≠ some true ∧ p = (0x10, .targetDepth)))) ∨
    (o.kind = .sled ∧ p ∈ [(0x13, .sledTarget), (0x14, .sledSpeed)]) ∨ (o.kind = .engage ∧ p = (0x20, .planLength)) ∨
    (o.kind = .bore ∧ (p ∈ [(0x03, .gear), (0x15, .boreMode), (0x16, .advance), (0x17, .rotarySpeed)] ∨
      (o.boreMode = some .locked ∧ p = (0x18, .push)) ∨ (o.boreMode = some .hanging ∧ p = (0x19, .downforce)))) ∨
    (o.kind = .spin ∧ p ∈ [(0x03, .gear), (0x17, .rotarySpeed), (0x1B, .cycles)]) ∨ (o.kind = .dwell ∧ p = (0x1C, .dwell)) ∨
    (o.kind = .park ∧ p = (0x1D, .parkKind))) ∧
  ∀ (q : Request) (rest : List Request) (s : State), s.demands .console 6 q rest →
    let c : Instr := .handover .console
    (q.value < 0 ∨ 31 < q.value → exec c s = .next (s.answered .console q rest .range 0)) ∧
    (∀ k : Fin 32, q.value = (k.val : Int) →
      let x := s.ring[k]
      (x.owner = .unit → exec c s = .next (s.answered .console q rest .owned 0)) ∧
      (x.owner = .console → x.order.kind = .none → exec c s = .next (s.answered .console q rest .state 0)) ∧
      (∀ p, x.owner = .console → p ∈ x.order.required → x.order.value p.2 = none →
        (∀ p', p' ∈ x.order.required → x.order.value p'.2 = none → p.1 ≤ p'.1) →
        exec c s = .next (s.answered .console q rest .state (p.1 : Int))) ∧
      (x.owner = .console → x.order.kind ≠ .none → (∀ p, p ∈ x.order.required → x.order.value p.2 ≠ none) →
        let taken : State := { s.answered .console q rest .ok 0 with ring := s.ring.set k ⟨.unit, x.order, none⟩ }
        (s.seq.state ≠ .suspended ∨ s.seq.next ≠ k → exec c s = .next taken) ∧
        (s.seq.state = .suspended → s.seq.next = k →
          ∃ t, exec c s = .next t ∧ (({ taken with seq := ⟨.running, k, none⟩ } : State).setFlagsAll flagSeqState).Takes t) ∧
        (s.seq.state = .suspended → s.seq.next = k → x.order.kind = .dwell → (s.ctl.mode = .surveyRequired ∨ s.ctl.mode = .operating) →
          s.kelly.rotation = none → s.ctl.reseat = .idle → s.axes.relief = none →
          ∃ t, exec c s = .next t ∧
            t = { taken with links := t.links, mail := t.mail, axes := t.axes, seq := ⟨.running, k, t.seq.stroke⟩ } ∧
            t.links = ((s.answered .console q rest .ok 0).setFlagsAll flagSeqState).links ∧
            ∃ y, t.seq.stroke = some y ∧ y.index = k ∧ y.phase = .wait ∧ y.outcome = none)))

/-- UNPARK: STATE outside PARKED, while the fault controller is not CLEAR, while a check runs, and for LATCH with the torque limit 0.0. A
STOW park becomes OPERATING at once; a LATCH park begins its re-seat check, a creep clockwise, or fails it with SEAT_EARLY when the drive is
wound or its measured torque is absent: the model is withdrawn and the unit is in SURVEY_REQUIRED. That a torque of either sign winds it is
log entry 67, the model's choice. -/
def Obligations.UnparkDemand : Prop :=
  ∀ (q : Request) (rest : List Request) (s : State), s.demands .console 7 q rest →
    let c : Instr := .unpark .console
    let ok : State := s.answered .console q rest .ok 0
    (s.ctl.mode ≠ .parked ∨ s.faults.state ≠ .clear ∨ s.ctl.reseat ≠ .idle ∨
        (∃ refs, s.ctl.park = some ⟨.latch, refs⟩ ∧ s.limits.set.torque = 0) →
      exec c s = .next (s.answered .console q rest .state 0)) ∧
    (∀ refs, s.ctl.mode = .parked → s.faults.state = .clear → s.ctl.reseat = .idle → s.ctl.park = some ⟨.stow, refs⟩ →
      let m : ModeChange := ⟨.parked, .operating⟩
      exec c s = .next (({ ok with
        ctl := ⟨.operating, none, .idle, false⟩
        axes := if s.ctl.latchRequest = true then { s.axes with crowd := { s.axes.crowd with standing := false } } else s.axes
        mail := { s.mail with
          modeSeq := s.mail.modeSeq ++ [m], modeEnv := s.mail.modeEnv ++ [m], modeSup := s.mail.modeSup ++ [m]
          modeLines := s.mail.modeLines ++ [m] } } : State).setFlagsAll flagModeChange)) ∧
    (∀ refs, s.ctl.mode = .parked → s.faults.state = .clear → s.ctl.reseat = .idle → s.ctl.park = some ⟨.latch, refs⟩ →
      s.limits.set.torque ≠ 0 → s.kelly.torque = none →
      ∃ t, exec c s = .next t ∧ t = { s with links := t.links, axes := t.axes, ctl := t.ctl, mail := t.mail, kelly := t.kelly } ∧
        t.ctl.mode = .surveyRequired ∧ t.ctl.park = none ∧ t.ctl.reseat = .idle ∧ t.kelly.known = false ∧
        t.mail.raises = s.mail.raises ++ [⟨.seatEarly, s.toolDepth, false⟩]) ∧
    (∀ refs q', s.ctl.mode = .parked → s.faults.state = .clear → s.ctl.reseat = .idle → s.ctl.park = some ⟨.latch, refs⟩ →
      s.limits.set.torque ≠ 0 → s.kelly.torque = some q' →
      (magnitude q' < s.profile.confirmTorque →
        ∃ t, exec c s = .next t ∧ t = { ok with
            axes := t.axes, ctl := { s.ctl with reseat := .checking s.profile.confirmTorque false false } } ∧
          (s.axes.governor = .free → t.axes.rotary.mode = .creep ∧ t.axes.rotary.request = creepSpeed * fine)) ∧
      (s.profile.confirmTorque ≤ magnitude q' →
        ∃ t, exec c s = .next t ∧ t = { s with links := t.links, axes := t.axes, ctl := t.ctl, mail := t.mail, kelly := t.kelly } ∧
          t.ctl.mode = .surveyRequired ∧ t.ctl.park = none ∧ t.ctl.reseat = .idle ∧ t.kelly.known = false ∧
          t.mail.raises = s.mail.raises ++ [⟨.seatEarly, s.toolDepth, false⟩]))

/-- COMMIT_REACTIONS: STATE once committed or while the length is 0; otherwise the table is committed, and with the profile committed the unit
leaves CONFIG for SURVEY_REQUIRED. CLEAR_LOCKOUT_RECORD: STATE in LOCKOUT, else the record is absent. UNIT_RESET is answered OK, and that
response takes the reset when it is sent. RESTORE: STATE outside CUT or while an axis moves; otherwise the controller is CLEAR, the
governors FREE, the lines follow, and REACTION_END is set on the links of the service vector's notify set. That RESTORE applies the orders
that still wait within the command is log entry 25, and that the reset falls on the sending of the response is log entry 26. -/
def Obligations.StabilityLinkDemands : Prop :=
  (∀ (q : Request) (rest : List Request) (s : State),
      let ok : State := s.answered .stability q rest .ok 0
      let no : State := s.answered .stability q rest .state 0
      (s.demands .stability 0x10 q rest →
        let done : State := { ok with faults := { s.faults with committed := true } }
        let m : ModeChange := ⟨.config, .surveyRequired⟩
        (s.faults.committed = true ∨ s.faults.length = 0 → exec (.commitReactions .stability) s = .next no) ∧
        (s.faults.committed = false → s.faults.length ≠ 0 → (s.ctl.mode ≠ .config ∨ s.profile.committed = false) →
          exec (.commitReactions .stability) s = .next done) ∧
        (s.faults.committed = false → s.faults.length ≠ 0 → s.ctl.mode = .config → s.profile.committed = true → s.kelly.known = false →
          exec (.commitReactions .stability) s = .next (({ done with
            axes := { s.axes with topCount := none }
            ctl := { s.ctl with mode := .surveyRequired }
            mail := { s.mail with
              modeSeq := s.mail.modeSeq ++ [m], modeEnv := s.mail.modeEnv ++ [m], modeSup := s.mail.modeSup ++ [m]
              modeLines := s.mail.modeLines ++ [m] } } : State).setFlagsAll flagModeChange))) ∧
      (s.demands .stability 0x12 q rest → exec (.unitReset .stability) s = .next { s with
        links := s.links.modify .stability fun c => { c with
          buffer := rest, queue := c.queue ++ [.response ⟨q.tag, .ok, 0x7F00, 0x12, 0, true⟩] } }) ∧
      (s.demands .stability 0x13 q rest →
        (s.ctl.mode = .lockout → exec (.clearLockoutRecord .stability) s = .next no) ∧
        (s.ctl.mode ≠ .lockout →
          exec (.clearLockoutRecord .stability) s = .next { ok with faults := { s.faults with lockoutRecord := none } }))) ∧
  ∀ (q : Request) (rest : List Request) (s : State), s.demands .stability 0x11 q rest →
    (s.faults.state ≠ .cut ∨ (∃ x, (s.axes.get x).atRest = false) →
      exec (.restore .stability) s = .next (s.answered .stability q rest .state 0)) ∧
    (∀ c, s.faults.context = some c → s.faults.state = .cut → (∀ x, (s.axes.get x).atRest = true) →
      ∃ t, exec (.restore .stability) s = .next t ∧
        t = { s with
          axes := t.axes, mail := { s.mail with orders := [] }
          faults := { s.faults with state := .clear, pilotCut := decide (s.ctl.mode = .config ∨ s.ctl.mode = .lockout), lockoutLine := false }
          links := ((s.answered .stability q rest .ok 0).setFlagsOn (s.faults.notifyOf c.serviceVector) flagReactionEnd).links } ∧
        t.axes.governor = .free)

/-- COMMIT_PROFILE: STATE outside CONFIG or once committed; STATE with the object of the first record that fails, in the order machine, kelly,
sections, interfaces, tool; otherwise the profile is committed, the dry weights are formed and the envelope record is held to the machine
ratings; with the reaction table already committed the unit leaves CONFIG for SURVEY_REQUIRED. -/
def Obligations.CommitProfileDemand : Prop :=
  ∀ (q : Request) (rest : List Request) (s : State), s.demands .recorder 0x20 q rest →
    let c : Instr := .commitProfile .recorder
    let p := s.profile
    let fails (obj : Nat) : Prop := exec c s = .next (s.answered .recorder q rest .state (obj : Int))
    (s.ctl.mode ≠ .config ∨ p.committed = true → exec c s = .next (s.answered .recorder q rest .state 0)) ∧
    (s.ctl.mode = .config → p.committed = false →
      (¬ p.MachineGood → fails 0x1000) ∧
      (p.MachineGood → ¬ p.KellyGood → fails 0x1010) ∧
      (∀ k : Fin 5, p.MachineGood → p.KellyGood → k.val < p.count → (∀ j : Fin 5, j.val < k.val → p.SectionGood j) → ¬ p.SectionGood k →
        fails (0x1101 + k.val)) ∧
      (∀ k : Fin 5, p.MachineGood → p.KellyGood → (∀ j : Fin 5, j.val < p.count → p.SectionGood j) → k.val < p.count →
        (∀ j : Fin 5, j.val < k.val → p.InterfaceGood j) → ¬ p.InterfaceGood k → fails (0x1200 + k.val)) ∧
      (p.MachineGood → p.KellyGood → (∀ j : Fin 5, j.val < p.count → p.SectionGood j ∧ p.InterfaceGood j) → ¬ p.ToolGood → fails 0x1300) ∧
      (p.MachineGood → p.KellyGood → (∀ j : Fin 5, j.val < p.count → p.SectionGood j ∧ p.InterfaceGood j) → p.ToolGood →
        (s.faults.committed = true → s.kelly.known = false) →
        ∃ t, exec c s = .next t ∧
          (let done : State := { s.answered .recorder q rest .ok 0 with
              profile := { p with committed := true }, limits := { s.limits with dry := t.limits.dry }
              env := { s.env with record := t.env.record } }
            let m : ModeChange := ⟨.config, .surveyRequired⟩
            (s.faults.committed = false → t = done) ∧
            (s.faults.committed = true → t = ({ done with
              axes := { s.axes with topCount := none }
              ctl := { s.ctl with mode := .surveyRequired }
              mail := { s.mail with
                modeSeq := s.mail.modeSeq ++ [m], modeEnv := s.mail.modeEnv ++ [m], modeSup := s.mail.modeSup ++ [m]
                modeLines := s.mail.modeLines ++ [m] } } : State).setFlagsAll flagModeChange)) ∧
          (∀ k : Fin 5, t.limits.dry.sections[k] =
            if k.val < p.count then some ((2 * 981 * fig p.sections[k].mass + 10000) / 20000) else none) ∧
          t.limits.dry.tool = some ((2 * 981 * fig p.tool.mass + 10000) / 20000) ∧
          t.limits.dry.total = some ((t.limits.dry.sections.toList.map fig).sum + fig t.limits.dry.tool) ∧
          (s.env.record = none → t.env.record = none) ∧
          ∀ r, s.env.record = some r → t.env.record = some { r with
            push := min r.push (fig p.machine.cMax), pull := min r.pull (fig p.machine.pMax)
            torque := min r.torque (max (fig p.machine.torqueLow) (fig p.machine.torqueHigh)) }))

/-- RECONFIGURE: STATE unless the sequencer is STOPPED and the unit is in SURVEY_REQUIRED or parked with STOW. Taken, it leaves the unit in
CONFIG with the profile UNCOMMITTED and kept, the model UNKNOWN, the rope depth absent, the debt 0, the limit set UNKNOWN and every
channel BRAKED; the ring, the marks, the slurry record, the envelope and the masks stay. -/
def Obligations.ReconfigureDemand : Prop :=
  ∀ (q : Request) (rest : List Request) (s : State), s.demands .recorder 0x21 q rest →
    let stowed : Prop := s.ctl.mode = .parked ∧ ∃ refs, s.ctl.park = some ⟨.stow, refs⟩
    let taken : Prop := s.seq.state = .stopped ∧ (s.ctl.mode = .surveyRequired ∨ stowed)
    (¬ taken → exec (.reconfigure .recorder) s = .next (s.answered .recorder q rest .state 0)) ∧
    (taken → ∃ t, exec (.reconfigure .recorder) s = .next t ∧
      t = { s with
        profile := { s.profile with committed := false }
        kelly := t.kelly, limits := { s.limits with set := LimitSet.unknown, dry := DryWeights.absent }
        axes := t.axes, ctl := t.ctl, links := t.links, mail := t.mail
        faults := { s.faults with pilotCut := true, lockoutLine := decide (s.faults.state = .lockout) } } ∧
      t.ctl.mode = .config ∧ (stowed → t.ctl.park = none ∧ t.ctl.reseat = .idle ∧ t.ctl.latchRequest = false) ∧
      t.kelly.known = false ∧ t.kelly.ropeDepth = none ∧ t.kelly.accumulator = 0 ∧ t.kelly.debt = 0 ∧
      (s.kelly.known = true → t.kelly.toolLoad = none ∧ t.kelly.tob = false ∧ ∀ k : Fin 5, t.kelly.interfaces[k] = ⟨.unknown, none⟩) ∧
      t.axes.gear = s.axes.gear ∧
      ∀ x, (t.axes.get x).mode = .braked ∧ (t.axes.get x).request = 0 ∧ (t.axes.get x).setpoint = 0 ∧ (t.axes.get x).demand = 0 ∧
        (t.axes.get x).brakeApplied = true)

/-! ### Samples -/

/-- A rope sample in range, with nothing in motion that waits on it. The first only becomes the baseline. A later one moves a present rope
depth by the change of count, feeds the accumulator and the datum debt, and judges the hoist (a zero interval counts as 1 ms: log entry
11). While the chain is fully engaged no position moves and CHAIN_LOST is declared past 100 mm; otherwise the unplaced length is placed by
the order rule and the discrepancy latch follows. With a stroke, a rotation or a re-seat check in flight, outside the run to NEST, the rope
depth, the accumulator, the debt and the positions move in the same way. -/
def Obligations.RopePayoutSample : Prop :=
  (∀ (n : Int) (s : State), 0 ≤ n → n ≤ 1000000 → s.Quiet → s.ctl.mode ≠ .parked → s.axes.topState ≠ some true →
    let c : Instr := .ropePayoutSample n
    (s.kelly.ropeBaseline = none → ∃ t, exec c s = .next t ∧ t.axes.sinceRope = 0 ∧
      t = { s with axes := t.axes, sup := s.sup.heard .ropePayout, kelly := { s.kelly with ropeBaseline := some n } }) ∧
    ∀ b, s.kelly.ropeBaseline = some b →
      let run := magnitude (n - b)
      let debt := min 4 (s.kelly.debt + (s.kelly.accumulator + run) / 12000)
      let m : Kelly := { s.kelly with
        ropeBaseline := some n, ropeDepth := s.kelly.ropeDepth.map (· + (n - b))
        accumulator := (s.kelly.accumulator + run) % 12000, debt := debt }
      ∃ t, exec c s = .next t ∧ t.axes.sinceRope = 0 ∧
        t = { s with
          axes := t.axes, sup := s.sup.heard .ropePayout, kelly := t.kelly, links := t.links, mail := t.mail, ctl := t.ctl } ∧
        (t.axes.hoist.atRest = true ↔ run * 1000 < 5 * ((max 1 s.axes.sinceRope : Nat) : Int)) ∧
        (s.kelly.known = false → t.kelly = m ∧ t.ctl = s.ctl ∧
          t.links = (if debt = s.kelly.debt then s.links else s.links.map fun k => k.setFlags 128) ∧
          t.mail = if debt = s.kelly.debt then s.mail else { s.mail with
            triggers := s.mail.triggers ++ [.debt]
            raises := if debt = 4 then s.mail.raises ++ [⟨.datumOverdue, none, false⟩] else s.mail.raises }) ∧
        ∀ u, s.unplaced = some u →
          (s.chainEngaged = true → magnitude (u + (n - b)) ≤ 100 → t.kelly = m ∧ t.ctl = s.ctl) ∧
          (s.chainEngaged = true → 100 < magnitude (u + (n - b)) → t.kelly.known = false ∧
            ⟨.chainLost, s.toolDepth, false⟩ ∈ t.mail.raises ∧ (s.ctl.mode = .operating → t.ctl.mode = .surveyRequired)) ∧
          (s.chainEngaged = false →
            t.kelly = { m with
              interfaces := (s.kelly.share s.profile s.profile.members (u + (n - b))).interfaces
              toolLoad := t.kelly.toolLoad, tob := t.kelly.tob, latch := t.kelly.latch } ∧ t.ctl = s.ctl ∧
            (t.kelly.latch = true ↔ 100 < magnitude (t.unplaced.getD 0)) ∧
            (s.kelly.latch = false → 100 < magnitude (t.unplaced.getD 0) →
              ⟨.datumDiscrepancy, t.toolDepth, false⟩ ∈ t.mail.raises))) ∧
  ∀ (n b : Int) (s : State), 0 ≤ n → n ≤ 1000000 → s.NoNest → s.kelly.ropeBaseline = some b →
    ∃ t, exec (.ropePayoutSample n) s = .next t ∧ t.kelly.ropeBaseline = some n ∧
      t.kelly.ropeDepth = s.kelly.ropeDepth.map (· + (n - b)) ∧
      t.kelly.accumulator = (s.kelly.accumulator + magnitude (n - b)) % 12000 ∧
      t.kelly.debt = min 4 (s.kelly.debt + (s.kelly.accumulator + magnitude (n - b)) / 12000) ∧
      (s.kelly.known = false → t.kelly.known = false ∧ ∀ k, t.kelly.pos k = s.kelly.pos k) ∧
      ∀ u, s.unplaced = some u → s.PlacedBy t (u + (n - b))

/-- A top-stop sample: the first is no change; a change becomes the last state, to ON with the payout count at that moment, to OFF forgetting
it. Past ON and outside CONFIG a payout count more than 100 below it raises TOP_STOP under the latch. That a change to ON before any payout
sample records no count, and that the first payout sample then supplies it, is log entry 65 (DESIGN CHOICE); that the raise carries D as it
stands after that same rope sample is log entry 68 (DESIGN CHOICE). -/
def Obligations.TopStopSampleAndWatch : Prop :=
  ∀ s : State, s.Quiet →
    (∀ on, ∃ t, exec (.topStopSample on) s = .next t ∧ t = { s with axes := t.axes, sup := s.sup.heard .topStop } ∧
      t.axes.topState = some on ∧
      (s.axes.topState ≠ some (!on) → t.axes.topCount = s.axes.topCount ∧ t.axes.topLatch = s.axes.topLatch) ∧
      (s.axes.topState = some (!on) → t.axes.topCount = (if on = true then s.kelly.ropeBaseline else none) ∧ t.axes.topLatch = false)) ∧
    ∀ (n : Int), 0 ≤ n → n ≤ 1000000 → s.axes.topState = some true → s.ctl.mode ≠ .parked → s.ctl.mode ≠ .config →
      ∃ t, exec (.ropePayoutSample n) s = .next t ∧
        (s.axes.topCount = none → t.axes.topCount = some n ∧ t.axes.topLatch = s.axes.topLatch) ∧
        ∀ k, s.axes.topCount = some k → t.axes.topCount = some k ∧
          (n < k - 100 → s.axes.topLatch = false → t.axes.topLatch = true ∧ ⟨.topStop, t.toolDepth, false⟩ ∈ t.mail.raises) ∧
          (k - 100 ≤ n ∨ s.axes.topLatch = true → t.axes.topLatch = s.axes.topLatch)

/-- A datum sample. The first, a repeat, and a change to OFF are no pass. A pass with the model UNKNOWN fixes an absent rope depth of a
committed profile; with the model known it sets the rope depth to the datum depth, raising DATUM_DISCREPANCY past 150 mm, and places the
unplaced length unless the chain is fully engaged. In every case the accumulator and the debt become 0. On a fully engaged chain
CHAIN_LOST follows the unplaced length alone (log entry 42, DEDUCED). With a stroke, a rotation or a re-seat check in flight, outside the
run to NEST, a pass does the same to the rope depth, the accumulator, the debt and the positions. -/
def Obligations.DatumSample : Prop :=
  (∀ s : State, s.Quiet → s.ctl.mode ≠ .parked →
    (∀ on, on = false ∨ s.kelly.datumState ≠ some false → ∃ t, exec (.datumSensorSample on) s = .next t ∧
      t = { s with axes := t.axes, sup := s.sup.heard .datum, kelly := { s.kelly with datumState := some on } }) ∧
    (s.kelly.datumState = some false →
      let datum := fig s.profile.machine.rDatum
      let m : Kelly := { s.kelly with datumState := some true, accumulator := 0, debt := 0 }
      ∃ t, exec (.datumSensorSample true) s = .next t ∧
        t = { s with
          axes := t.axes, sup := s.sup.heard .datum, kelly := t.kelly, links := t.links, mail := t.mail, ctl := t.ctl } ∧
        (t.ctl = s.ctl → t.links = if s.kelly.debt = 0 then s.links else s.links.map fun k => k.setFlags 128) ∧
        (s.kelly.known = false →
          t.kelly = { m with
            ropeDepth := if s.profile.committed = true ∧ s.kelly.ropeDepth = none then some datum else s.kelly.ropeDepth } ∧
          t.ctl = s.ctl ∧ t.mail = if s.kelly.debt = 0 then s.mail else { s.mail with triggers := s.mail.triggers ++ [.debt] }) ∧
        ∀ u r, s.unplaced = some u → s.kelly.ropeDepth = some r →
          let c := datum - r
          let first : List Raise := if 150 < magnitude c then [⟨.datumDiscrepancy, s.toolDepth, false⟩] else []
          (s.chainEngaged = true → magnitude (u + c) ≤ 100 →
            t.kelly = { m with ropeDepth := some datum } ∧ t.mail.raises = s.mail.raises ++ first ∧ t.ctl = s.ctl) ∧
          (s.chainEngaged = true → 100 < magnitude (u + c) →
            t.kelly.known = false ∧ t.mail.raises = s.mail.raises ++ first ++ [⟨.chainLost, s.toolDepth, false⟩]) ∧
          (s.chainEngaged = false →
            t.kelly = { m with
              ropeDepth := some datum, interfaces := (s.kelly.share s.profile s.profile.members (u + c)).interfaces
              toolLoad := t.kelly.toolLoad, tob := t.kelly.tob, latch := t.kelly.latch } ∧ t.ctl = s.ctl ∧
            (t.kelly.latch = true ↔ 100 < magnitude (t.unplaced.getD 0)) ∧
            t.mail.raises = s.mail.raises ++ first ++
              (if magnitude c ≤ 150 ∧ s.kelly.latch = false ∧ 100 < magnitude (t.unplaced.getD 0) then
                [⟨.datumDiscrepancy, t.toolDepth, false⟩] else [])))) ∧
  ∀ (on : Bool) (s : State), s.NoNest →
    let datum := fig s.profile.machine.rDatum
    let pass : Prop := on = true ∧ s.kelly.datumState = some false
    ∃ t, exec (.datumSensorSample on) s = .next t ∧ t.kelly.datumState = some on ∧
      (¬ pass → t.kelly.ropeDepth = s.kelly.ropeDepth ∧ t.kelly.accumulator = s.kelly.accumulator ∧ t.kelly.debt = s.kelly.debt) ∧
      (pass → t.kelly.accumulator = 0 ∧ t.kelly.debt = 0 ∧ (s.kelly.known = true → t.kelly.ropeDepth = some datum) ∧
        (s.kelly.known = false → t.kelly.known = false ∧ (∀ k, t.kelly.pos k = s.kelly.pos k) ∧ t.kelly.ropeDepth =
          if s.profile.committed = true ∧ s.kelly.ropeDepth = none then some datum else s.kelly.ropeDepth) ∧
        ∀ u r, s.unplaced = some u → s.kelly.ropeDepth = some r → s.PlacedBy t (u + (datum - r)))

/-- Tool load and TOB are formed again at each valid tension sample, each valid crowd pressure sample (which forms the crowd force first) and
each limit set taken by the model; a change of TOB is handed to the sequencer. With nothing in flight a sample changes nothing else. Whatever
stroke, rotation or re-seat check is in flight, the same quantities are formed, from the map as it stands after the sample; and a sample
that decides no rotation, begins no unseating and runs to no NEST leaves the map as it was and hands one change of TOB on. -/
def Obligations.ToolLoadAndTob : Prop :=
  ∀ s : State,
    let area (a : Int) (b : Int) : Int := a * fig s.profile.machine.aCap - b * fig s.profile.machine.aRod
    let forced (cap rod : Option Int) (t : State) : Prop :=
      (∀ a b, cap = some a → rod = some b → s.profile.committed = true →
        t.kelly.crowdForce = some (if area a b < 0 then -((2 * -area a b + 100) / 200) else (2 * area a b + 100) / 200)) ∧
      (cap = none ∨ rod = none ∨ s.profile.committed = false → t.kelly.crowdForce = none)
    let follows (t : State) : Prop :=
      t.LoadBy t.kelly.tension t.kelly.crowdForce t.kelly.toolLoad t.kelly.tob ∧
      t.limits.set = { s.limits.set with holdback := t.limits.set.holdback } ∧
      (s.HoldsMap → t.kelly.interfaces = s.kelly.interfaces ∧ t.kelly.known = s.kelly.known ∧
        t.mail.tobSeq = if t.kelly.tob = s.kelly.tob then s.mail.tobSeq else s.mail.tobSeq ++ [t.kelly.tob])
    (∀ (x : Int) (first : Bool), 0 ≤ x → x ≤ 30000 →
      ∃ t, exec (.ropeTensionSample x first) s = .next t ∧
        (s.Quiet →
          t = { s with
            axes := t.axes, sup := s.sup.heard .ropeTension, mail := t.mail
            kelly := { s.kelly with tension := some x, toolLoad := t.kelly.toolLoad, tob := t.kelly.tob } } ∧
          s.LoadFormed t (some x) s.kelly.crowdForce) ∧
        t.kelly.tension = some x ∧ t.kelly.crowdForce = s.kelly.crowdForce ∧ follows t) ∧
    (∀ (p : CrowdPort) (x : Int), 0 ≤ x → x ≤ 4500 →
      let cap := if p = .cap then some x else s.kelly.pressCap
      let rod := if p = .rod then some x else s.kelly.pressRod
      ∃ t, exec (.crowdPressureSample p x) s = .next t ∧
        (s.Quiet →
          t = { s with
            axes := t.axes, sup := s.sup.heard (if p = .cap then .crowdCap else .crowdRod), mail := t.mail
            kelly := { s.kelly with
              pressCap := cap, pressRod := rod, crowdForce := t.kelly.crowdForce, toolLoad := t.kelly.toolLoad, tob := t.kelly.tob } } ∧
          s.LoadFormed t s.kelly.tension t.kelly.crowdForce) ∧
        t.kelly.pressCap = cap ∧ t.kelly.pressRod = rod ∧ t.kelly.tension = s.kelly.tension ∧ forced cap rod t ∧ follows t) ∧
    ∀ k : Nat, s.mail.limitModel = k + 1 →
      ∃ t, exec .limitSetAtModel s = .next t ∧
        t = { s with kelly := { s.kelly with toolLoad := t.kelly.toolLoad, tob := t.kelly.tob }, mail := t.mail } ∧
        ({ s with mail := { s.mail with limitModel := k } } : State).LoadFormed t s.kelly.tension s.kelly.crowdForce

/-- A sled sample in range, with nothing in motion that waits on it. It sets the sled, and from the second on judges the crowd. With the
model UNKNOWN nothing else of the model changes. With the chain fully engaged D moves with the sled and CHAIN_LOST is declared past 100 mm;
with the first interface that is not engaged sliding, its position takes the motion and D stays; past its bound it stops there and the other
released interfaces share the excess by the order rule, D moving by what none takes, with the discrepancy latch. With a stroke, a rotation
or a re-seat check in flight, outside the run to NEST, the positions move in the same way, and rope depth, accumulator and debt stay; with
that first interface SEATING or UNSEATING, the released ones share the whole motion by the order rule. A zero interval between two samples
counts as 1 ms: the model's choice, log entry 11. -/
def Obligations.SledSample : Prop :=
  (∀ (x : Int) (s : State), s.Quiet → s.ctl.mode ≠ .parked →
    (s.profile.committed = true → 0 ≤ x ∧ x ≤ fig s.profile.machine.sledTravel) →
    ∃ t, exec (.sledPositionSample x) s = .next t ∧ t.axes.sinceSled = 0 ∧ t.kelly.sled = some x ∧
      t = { s with axes := t.axes, sup := s.sup.heard .sled, kelly := t.kelly, mail := t.mail, links := t.links, ctl := t.ctl } ∧
      (s.kelly.sled = none ∨ s.kelly.known = false →
        t.kelly = { s.kelly with sled := some x } ∧ t.mail = s.mail ∧ t.links = s.links ∧ t.ctl = s.ctl) ∧
      (s.kelly.sled = none → t.axes.crowd.atRest = s.axes.crowd.atRest) ∧
      ∀ b, s.kelly.sled = some b →
        (t.axes.crowd.atRest = true ↔ magnitude (x - b) * 1000 < 5 * ((max 1 s.axes.sinceSled : Nat) : Int)) ∧
        ∀ u d, s.unplaced = some u → s.toolDepth = some d →
          (s.chainEngaged = true → magnitude (u - (x - b)) ≤ 100 → t.kelly = { s.kelly with sled := some x } ∧
            t.toolDepth = some (d + (x - b)) ∧ t.links = s.links ∧ t.ctl = s.ctl) ∧
          (s.chainEngaged = true → 100 < magnitude (u - (x - b)) → t.kelly.known = false ∧
            ⟨.chainLost, some (d + (x - b)), false⟩ ∈ t.mail.raises ∧ (s.ctl.mode = .operating → t.ctl.mode = .surveyRequired)) ∧
          (∀ k : Fin 5, s.chainEngaged = false → k.val = s.engagedRun → (s.kelly.st k).isReleased = true →
            State.PositionsInRange s.profile s.kelly → 0 ≤ s.kelly.pos k - (x - b) →
            s.kelly.pos k - (x - b) ≤ s.profile.travel k →
            t.kelly.pos k = s.kelly.pos k - (x - b) ∧ (∀ j, j ≠ k → t.kelly.pos j = s.kelly.pos j) ∧ t.toolDepth = some d ∧
            t.links = s.links ∧ t.ctl = s.ctl ∧ t.kelly.known = true) ∧
          ∀ k : Fin 5, s.chainEngaged = false → k.val = s.engagedRun → (s.kelly.st k).isReleased = true →
            let want := s.kelly.pos k - (x - b)
            let got := max 0 (min (s.profile.travel k) want)
            let others := s.profile.members.filter fun i => i ≠ k
            let sum (y : State) : Int := (s.profile.members.map y.kelly.pos).sum
            0 ≤ s.profile.travel k →
            t.kelly = { s.kelly with
              sled := some x, interfaces := ((s.kelly.setPos k got).share s.profile others (want - got)).interfaces
              toolLoad := t.kelly.toolLoad, tob := t.kelly.tob, latch := t.kelly.latch } ∧
            t.toolDepth = some (d + (x - b) + (sum t - sum s)) ∧ t.ctl = s.ctl ∧
            (t.kelly.latch = true ↔ 100 < magnitude (t.unplaced.getD 0)) ∧
            (s.kelly.latch = false → 100 < magnitude (t.unplaced.getD 0) → ⟨.datumDiscrepancy, t.toolDepth, false⟩ ∈ t.mail.raises)) ∧
  ∀ (x : Int) (s : State), s.NoNest → (s.profile.committed = true → 0 ≤ x ∧ x ≤ fig s.profile.machine.sledTravel) →
    ∃ t, exec (.sledPositionSample x) s = .next t ∧ t.kelly.sled = some x ∧ t.kelly.ropeDepth = s.kelly.ropeDepth ∧
      t.kelly.accumulator = s.kelly.accumulator ∧ t.kelly.debt = s.kelly.debt ∧
      (s.kelly.known = false → t.kelly.known = false ∧ ∀ k, t.kelly.pos k = s.kelly.pos k) ∧
      ∀ b u, s.kelly.sled = some b → s.unplaced = some u →
        (s.kelly.rotation = none → s.Watched = false → (s.chainEngaged = true → magnitude (u - (x - b)) ≤ 100) → t.kelly.known = true) ∧
        (t.kelly.known = true → s.chainEngaged = true → ∀ k, t.kelly.pos k = s.kelly.pos k) ∧
        ∀ k : Fin 5, t.kelly.known = true → s.chainEngaged = false → k.val = s.engagedRun →
          ((s.kelly.st k).isReleased = true → State.PositionsInRange s.profile s.kelly → 0 ≤ s.kelly.pos k - (x - b) →
            s.kelly.pos k - (x - b) ≤ s.profile.travel k →
            t.kelly.pos k = s.kelly.pos k - (x - b) ∧ ∀ j, j ≠ k → t.kelly.pos j = s.kelly.pos j) ∧
          ((s.kelly.st k).isReleased = true → 0 ≤ s.profile.travel k →
            let want := s.kelly.pos k - (x - b)
            let got := max 0 (min (s.profile.travel k) want)
            ∀ j, t.kelly.pos j = ((s.kelly.setPos k got).share s.profile (s.profile.members.filter fun i => i ≠ k) (want - got)).pos j) ∧
          (∀ i : Fin 8, s.kelly.st k = .seating i ∨ s.kelly.st k = .unseating i →
            ∀ j, t.kelly.pos j = (s.kelly.share s.profile s.profile.members (-(x - b))).pos j)

/-- A rotary angle sample outside a rotation: it becomes the angle, and from the second on moves the spring-back accumulator: clockwise to 0;
anticlockwise under restraint (an interface ENGAGED, TOB, crowd force below the hold-in force) up by the angle turned, with CHAIN_LOST
once it reaches seat − tol; otherwise unchanged. An absent crowd force is not below the hold-in force (log entry 19, DEDUCED). A rotary
speed sample in range judges the rotary: at rest below 0.2 rpm. A rotary pressure sample in range forms the measured torque from both
ports and the constant of the held gear, rounded half up in magnitude with its sign kept; it is absent while the gear is unknown, a port
has given no sample, or the profile is UNCOMMITTED. With nothing in flight a sample changes nothing else. Whatever stroke, rotation or re-seat
check is in flight, the angle, the speed, the rest of the rotary and the measured torque are formed in the same way; and outside a rotation
the accumulator moves in the same way with a stroke in flight, a SURVEY, whose model is UNKNOWN, losing no chain. -/
def Obligations.RotarySamples : Prop :=
  (∀ (x : Int) (s : State), s.Quiet → s.ctl.mode ≠ .parked →
      let c : Instr := .rotaryAngleSample x
      let heard (v : Int) : Prop := ∃ t, exec c s = .next t ∧
        t = { s with axes := t.axes, sup := s.sup.heard .rotaryAngle, kelly := { s.kelly with angle := some x, springBack := v } }
      let restrained : Prop := (∃ k : Fin 5, k.val < s.profile.count ∧ ∃ j, s.kelly.interfaces[k].state = .engaged j) ∧
        s.kelly.tob = true ∧ ∃ f, s.kelly.crowdForce = some f ∧ f < fig s.profile.kelly.holdIn
      (s.kelly.angle = none → heard s.kelly.springBack) ∧
      ∀ b, s.kelly.angle = some b →
        (b < x → heard 0) ∧ (x = b → heard s.kelly.springBack) ∧ (x < b → ¬ restrained → heard s.kelly.springBack) ∧
        (x < b → restrained → s.kelly.springBack + (b - x) < fig s.profile.kelly.seatAngle - fig s.profile.kelly.seatTol →
          heard (s.kelly.springBack + (b - x))) ∧
        (x < b → restrained → fig s.profile.kelly.seatAngle - fig s.profile.kelly.seatTol ≤ s.kelly.springBack + (b - x) →
          ∃ t, exec c s = .next t ∧
            t = { s with axes := t.axes, sup := s.sup.heard .rotaryAngle, kelly := t.kelly, mail := t.mail, links := t.links, ctl := t.ctl } ∧
            t.kelly.known = false ∧ t.kelly.angle = some x ∧ t.mail.raises = s.mail.raises ++ [⟨.chainLost, s.toolDepth, false⟩] ∧
            t.ctl.mode = if s.ctl.mode = .operating then .surveyRequired else s.ctl.mode)) ∧
  (∀ (x : Int) (s : State), ∃ t, exec (.rotaryAngleSample x) s = .next t ∧ t.kelly.angle = some x ∧
      let restrained : Prop := s.Restrained
      let seat : Int := fig s.profile.kelly.seatAngle - fig s.profile.kelly.seatTol
      s.kelly.rotation = none → s.ctl.reseat = .idle → s.ctl.mode ≠ .parked →
        (s.kelly.angle = none → t.kelly.springBack = s.kelly.springBack) ∧
        ∀ b, s.kelly.angle = some b →
          (b < x → t.kelly.springBack = 0) ∧ (x = b ∨ (x < b ∧ ¬ restrained) → t.kelly.springBack = s.kelly.springBack) ∧
          (x < b → restrained → s.kelly.springBack + (b - x) < seat → t.kelly.springBack = s.kelly.springBack + (b - x)) ∧
          (x < b → restrained → seat ≤ s.kelly.springBack + (b - x) → ⟨.chainLost, s.toolDepth, false⟩ ∈ t.mail.raises ∧
            ((∀ y, s.seq.stroke = some y → y.phase ≠ .unseat ∧ y.phase ≠ .raise) →
              t.kelly.known = false ∧ (s.ctl.mode = .operating → t.ctl.mode = .surveyRequired)))) ∧
  ∀ s : State,
    (∀ x : Int, -999 ≤ x → x ≤ 999 → ∃ t, exec (.rotarySpeedSample x) s = .next t ∧
      (s.Quiet → t = { s with axes := t.axes, sup := s.sup.heard .rotarySpeed, kelly := { s.kelly with speed := some x } }) ∧
      t.kelly.speed = some x ∧ (t.axes.rotary.atRest = true ↔ -2 < x ∧ x < 2)) ∧
    ∀ (p : RotaryPort) (x : Int), 0 ≤ x → x ≤ 4500 →
      let a := if p = .a then some x else s.kelly.pressA
      let b := if p = .b then some x else s.kelly.pressB
      ∃ t, exec (.rotaryPressureSample p x) s = .next t ∧
        (s.Quiet →
          t = { s with
            axes := t.axes, sup := s.sup.heard (if p = .a then .rotaryA else .rotaryB)
            kelly := { s.kelly with pressA := a, pressB := b, torque := t.kelly.torque } }) ∧
        t.kelly.pressA = a ∧ t.kelly.pressB = b ∧
        (∀ pa pb g, a = some pa → b = some pb → s.axes.gear = some g → s.profile.committed = true →
          let z := (pa - pb) * fig (if g = .low then s.profile.machine.constLow else s.profile.machine.constHigh)
          t.kelly.torque = some (if z < 0 then -((2 * -z + 100) / 200) else (2 * z + 100) / 200)) ∧
        (a = none ∨ b = none ∨ s.axes.gear = none ∨ s.profile.committed = false → t.kelly.torque = none)

/-- The park watch and the re-seat check, with no stroke in flight. A rope, sled or angle sample past its limit from the park reference raises
PARK_DISTURBED, withdraws the model and leaves PARKED for SURVEY_REQUIRED; one within it changes nothing of the mode; a datum pass tests the
corrected rope depth in the same way, and a datum sample that is no pass tests nothing; the angle is not tested while a check runs. A torque at the confirm torque with the angle at or below the reference plus the tolerance confirms the check:
the creep stops, the seat settle time starts, and at rest the unit is OPERATING with the crowd request standing. An angle past it fails
the check with SEAT_ATTEMPTS. An interrupted check is IDLE at rest, the unit still PARKED. A chain lost by the same sample comes first
(log entry 28), and rest after an interruption asks for a zero setpoint and no waiting order (log entry 21). The torque is compared by its
magnitude (log entry 67). -/
def Obligations.ParkWatchAndReseat : Prop :=
  ∀ (s : State) (kind : ParkKind) (refs : ParkRefs), s.ctl.mode = .parked → s.ctl.park = some ⟨kind, refs⟩ → s.seq.stroke = none →
    s.kelly.rotation = none →
    let tol := fig s.profile.kelly.seatTol
    let watching : Prop := s.ctl.reseat = .idle ∨ ∃ c, s.ctl.reseat = .checking c false false
    let leaves (t : State) : Prop := t.kelly.known = false ∧ t.ctl = ⟨.surveyRequired, none, .idle, false⟩
    let disturbed (t : State) (d : Option Int) : Prop := leaves t ∧ ⟨.parkDisturbed, d, false⟩ ∈ t.mail.raises
    let stays (t : State) : Prop := t.ctl = s.ctl ∧ t.kelly.known = s.kelly.known ∧
      ∀ r ∈ t.mail.raises, r.vector = .parkDisturbed → r ∈ s.mail.raises
    (∀ n b a r u : Int, watching → s.kelly.known = true → 0 ≤ n → n ≤ 1000000 → s.kelly.ropeBaseline = some b → refs.rope = some a →
      s.kelly.ropeDepth = some r → s.unplaced = some u → (s.chainEngaged = true → magnitude (u + (n - b)) ≤ 100) →
      ∃ t, exec (.ropePayoutSample n) s = .next t ∧
        (50 < magnitude (r + (n - b) - a) → ∃ d, disturbed t d ∧ (s.chainEngaged = true → d = s.toolDepth)) ∧
        (magnitude (r + (n - b) - a) ≤ 50 → stays t)) ∧
    (∀ a r u : Int, watching → s.kelly.known = true → s.kelly.datumState = some false → refs.rope = some a → s.kelly.ropeDepth = some r →
      s.unplaced = some u →
      let datum := fig s.profile.machine.rDatum
      (s.chainEngaged = true → magnitude (u + (datum - r)) ≤ 100) →
      ∃ t, exec (.datumSensorSample true) s = .next t ∧ t.kelly.ropeDepth = some datum ∧ t.kelly.debt = 0 ∧
        (50 < magnitude (datum - a) → ∃ d, disturbed t d ∧ (s.chainEngaged = true → d = s.toolDepth)) ∧
        (magnitude (datum - a) ≤ 50 → stays t)) ∧
    (∀ on, watching → on = false ∨ s.kelly.datumState ≠ some false → ∃ t, exec (.datumSensorSample on) s = .next t ∧ stays t) ∧
    (∀ z b a u : Int, watching → s.kelly.known = true → (s.profile.committed = true → 0 ≤ z ∧ z ≤ fig s.profile.machine.sledTravel) →
      s.kelly.sled = some b → refs.sled = some a → s.unplaced = some u → (s.chainEngaged = true → magnitude (u - (z - b)) ≤ 100) →
      ∃ t, exec (.sledPositionSample z) s = .next t ∧ (50 < magnitude (z - a) → ∃ d, disturbed t d) ∧
        (magnitude (z - a) ≤ 50 → stays t)) ∧
    (∀ a z : Int, refs.angle = some a → ¬ s.Restrained → ∃ t, exec (.rotaryAngleSample z) s = .next t ∧
      (s.ctl.reseat = .idle → tol < magnitude (z - a) → disturbed t s.toolDepth) ∧
      (s.ctl.reseat = .idle → magnitude (z - a) ≤ tol → stays t) ∧
      ∀ c, s.ctl.reseat = .checking c false false →
        (z ≤ a + tol → t.ctl = s.ctl ∧ t.mail = s.mail) ∧
        (a + tol < z → leaves t ∧ t.mail.raises = s.mail.raises ++ [⟨.seatAttempts, s.toolDepth, false⟩] ∧
          (s.axes.governor = .free → t.axes.rotary.request = 0))) ∧
    (∀ (p : RotaryPort) (v a z c : Int), 0 ≤ v → v ≤ 4500 → s.ctl.reseat = .checking c false false → refs.angle = some a →
      s.kelly.angle = some z → ∃ t, exec (.rotaryPressureSample p v) s = .next t ∧
        ((∀ q, t.kelly.torque = some q → magnitude q < c ∨ a + tol < z) → t.ctl = s.ctl ∧ t.kelly.seatSettle = s.kelly.seatSettle) ∧
        ∀ q, t.kelly.torque = some q → c ≤ magnitude q → z ≤ a + tol → t.kelly.seatSettle = some 1000 ∧
          (s.axes.governor = .free → t.axes.rotary.request = 0) ∧
          t.ctl = if t.axes.rotary.atRest = true then ⟨.operating, none, .idle, false⟩ else { s.ctl with reseat := .checking c true false }) ∧
    (∀ (c v : Int) (i : Bool), s.ctl.reseat = .checking c true i → -2 < v → v < 2 →
      ∃ t, exec (.rotarySpeedSample v) s = .next t ∧ t.ctl = ⟨.operating, none, .idle, false⟩ ∧
        t.kelly = { s.kelly with speed := some v } ∧ t.axes.crowd.mode = s.axes.crowd.mode ∧ t.axes.crowd.request = s.axes.crowd.request) ∧
    (∀ c v : Int, s.ctl.reseat = .checking c false true → -2 < v → v < 2 → s.axes.rotary.setpoint = 0 → 0 ≤ s.rotaryMax →
      s.mail.orders = [] → ∃ t, exec (.rotarySpeedSample v) s = .next t ∧ t.ctl = { s.ctl with reseat := .idle } ∧ t.mail = s.mail)

/-- Gear: the table of R133 outside a shift, with a shift asked for and not begun withdrawn when its target is confirmed; a shift begun with the
rotary BRAKED, GEAR_SHIFT clear and the governors FREE, whatever stroke is in flight; its end by the confirm of its target, and its expiry with
GEAR_SHIFT raised. A shift that waited follows. A lost gear leaves no measured torque and no stall timer, with a stroke in flight too. With a
stroke in GEAR (R93) the confirm of its order gear ends the shift and GEAR: a SPIN begins TURN_CW and its rotation time limit, a BORE RAMP_UP
with its advance origin and its requests, a HANGING one with its downforce handed, its holdback formed and its window watch; an inhibited stroke
is stopped there, its channels given their normal stop (log entry 45, the model's choice). The shift to its order gear that waited for the end of
another becomes PENDING and GEAR goes on; another confirm, a lost gear and the expiry of the shift leave the stroke in GEAR. A turn begun before
any angle sample records no start angle (log entry 76, the model's choice). What a waiting shift becomes once its stroke completes is log entry
80, not stated here. -/
def Obligations.GearSamplesAndShifts : Prop :=
  (∀ s : State, s.Quiet →
    let sample (x : Option Gear) : Instr := .gearConfirmSample x
    let heardOnly (x : Option Gear) : Prop := ∃ t, exec (sample x) s = .next t ∧
      t = { s with axes := t.axes, sup := s.sup.heard .gearConfirm } ∧ t.axes.gear = s.axes.gear ∧ t.axes.shift = s.axes.shift
    let outside : Prop := ∀ g, s.axes.shift ≠ .shifting g
    let follows (held : Option Gear) : Shift :=
      match s.axes.queuedShift with
      | some q => if held = some q then .idle else .pending q
      | none => .idle
    (∀ h, outside → s.axes.gear = some h → heardOnly (some h)) ∧
    (∀ h x, outside → s.axes.gear = some h → x ≠ some h → ∃ t, exec (sample x) s = .next t ∧
      t = { s with
        axes := t.axes, sup := s.sup.heard .gearConfirm, kelly := { s.kelly with torque := none }
        mail := { s.mail with
          triggers := s.mail.triggers ++ [.gear]
          raises := if s.ctl.mode = .config then s.mail.raises else s.mail.raises ++ [⟨.gearShift, s.toolDepth, false⟩] } } ∧
      t.axes.gear = none ∧ t.axes.shift = s.axes.shift) ∧
    (∀ g, outside → s.axes.gear = none → ∃ t, exec (sample (some g)) s = .next t ∧
      t = { s with
        axes := t.axes, sup := s.sup.heard .gearConfirm, mail := { s.mail with triggers := s.mail.triggers ++ [.gear] } } ∧
      t.axes.gear = some g ∧ t.axes.shift = if s.axes.shift = .pending g then .idle else s.axes.shift) ∧
    (outside → s.axes.gear = none → heardOnly none) ∧
    (∀ g x, s.axes.shift = .shifting g → x ≠ some g → heardOnly x) ∧
    (∀ g, s.axes.shift = .shifting g → s.axes.gear = none → ∃ t, exec (sample (some g)) s = .next t ∧
      t = { s with
        axes := t.axes, sup := s.sup.heard .gearConfirm, mail := { s.mail with triggers := s.mail.triggers ++ [.gear] } } ∧
      t.axes.gear = some g ∧ t.axes.shift = follows (some g) ∧ t.axes.valve = none ∧ t.axes.shiftTimer = none) ∧
    (s.axes.shiftTimer = some 0 → ∃ t, exec .shiftTimerExpiry s = .next t ∧
      t = { s with axes := t.axes, mail := { s.mail with raises := s.mail.raises ++ [⟨.gearShift, s.toolDepth, false⟩] } } ∧
      t.axes.gear = s.axes.gear ∧ t.axes.shift = follows s.axes.gear ∧ t.axes.valve = none ∧ t.axes.shiftTimer = none)) ∧
  (∀ (s : State) (h : Gear) (x : Option Gear), (∀ g, s.axes.shift ≠ .shifting g) → s.axes.gear = some h → x ≠ some h →
    ∃ t, exec (.gearConfirmSample x) s = .next t ∧ t.axes.gear = none ∧ t.kelly.torque = none ∧ t.axes.stallTimer = none) ∧
  (∀ (s : State) (g : Gear), s.axes.shift = .pending g →
    (s.axes.rotary.mode = .braked → holds s.axes.union .gearShift = false → s.axes.governor = .free →
      ∃ t, exec .gearShiftBegin s = .next t ∧
        t = { s with
          axes := t.axes, kelly := { s.kelly with torque := if s.axes.gear = none then s.kelly.torque else none }
          mail := if s.axes.gear = none then s.mail else { s.mail with triggers := s.mail.triggers ++ [.gear] } } ∧
        t.axes.shift = .shifting g ∧ t.axes.gear = none ∧ t.axes.valve = some g ∧ t.axes.shiftTimer = some 3000) ∧
    (s.axes.rotary.mode ≠ .braked ∨ holds s.axes.union .gearShift = true ∨ s.axes.governor ≠ .free →
      exec .gearShiftBegin s = .next s)) ∧
  ∀ (s : State) (x : Stroke), s.seq.stroke = some x → x.phase = .gear → x.closed = false → x.met = false → s.kelly.rotation = none →
    s.ctl.reseat = .idle → s.axes.relief = none →
    let order := s.ring[x.index].order
    let free : Prop := s.axes.governor = .free
    let outside : Prop := ∀ g, s.axes.shift ≠ .shifting g
    let heardOnly (c : Option Gear) : Prop := ∃ t, exec (.gearConfirmSample c) s = .next t ∧
      t = { s with axes := t.axes, sup := s.sup.heard .gearConfirm } ∧ t.axes.gear = s.axes.gear ∧ t.axes.shift = s.axes.shift ∧
      t.axes.queuedShift = s.axes.queuedShift
    let confirmed (g : Gear) (y : Stroke) (t : State) : Prop := exec (.gearConfirmSample (some g)) s = .next t ∧ t.axes.gear = some g ∧
      t = { s with
        axes := t.axes, sup := s.sup.heard .gearConfirm, seq := { s.seq with stroke := some y }, limits := t.limits, mail := t.mail } ∧
      (order.isHanging = false → t.limits = s.limits ∧ (s.axes.gear = none → t.mail = { s.mail with triggers := s.mail.triggers ++ [.gear] }))
    let ends (g : Gear) : Prop := order.gear = some g ∧
      ((s.axes.shift = .shifting g ∧ (s.axes.queuedShift = none ∨ s.axes.queuedShift = some g)) ∨
        (s.axes.gear = none ∧ (s.axes.shift = .idle ∨ s.axes.shift = .pending g)))
    (∀ g, ends g → ∃ t y, confirmed g y t ∧ t.axes.shift = .idle ∧
      let pulls (f : Int) : Prop := free → holds s.axes.union .hoistUp = false → holds s.axes.union .hoistDown = false →
        50 ≤ s.axes.limits.hoistLine → t.axes.hoist.mode = .tension ∧ t.axes.hoist.request = f * fine
      let turns : Prop := free → t.axes.rotary.mode = .speed ∧ t.axes.rotary.request = x.rotarySpeed * fine
      (x.inhibited = true → y.phase = .gear ∧ y.closed = true ∧ y.outcome = some (x.outcome.getD .refused) ∧
        (x.outcome = none → y.reason = some (x.reason.getD .inhibited)) ∧ y.endState = (if x.endState = .running then .held else x.endState) ∧
        y.figures = x.figures ∧ (free ∨ s.axes.governor = .normal → s.ctl.latchRequest = false → ∀ a, (t.axes.get a).request = 0)) ∧
      (x.inhibited = false → order.kind = .spin →
        y = { x with phase := .turnCw, rotationLimit := some 30000, turnOrigin := s.kelly.angle, turnStopping := false } ∧ turns ∧
        (free → t.axes.hoist.request = 0 ∧ t.axes.crowd.request = 0)) ∧
      (x.inhibited = false → order.isLocked = true → y = { x with phase := .rampUp, origin := s.toolDepth } ∧ turns ∧ pulls 50 ∧
        (free → t.axes.crowd.mode = .force ∧ t.axes.crowd.request = min (fig s.profile.kelly.holdIn) s.limits.set.push * fine)) ∧
      ∀ f w, x.inhibited = false → order.isHanging = true → order.downforce = some f → s.limits.set.wTotal = some w →
        let r := max 50 (min s.limits.set.hoistLine (w - f))
        y = { x with
          phase := .rampUp, origin := s.toolDepth, windowWatch := true
          figures := { x.figures with downforceShort := x.figures.downforceShort || decide (w - r < f) } } ∧ turns ∧ pulls r ∧
        t.limits = { s.limits with downforce := some f, set := { s.limits.set with holdback := some r } } ∧
        (free → t.axes.crowd.request = 0)) ∧
    (∀ g q, s.axes.shift = .shifting g → s.axes.queuedShift = some q → q ≠ g →
      ∃ t, confirmed g x t ∧ t.axes.shift = .pending q ∧ t.axes.queuedShift = none ∧ t.axes.valve = none ∧ t.axes.shiftTimer = none) ∧
    (∀ g c, s.axes.shift = .shifting g → c ≠ some g → heardOnly c) ∧
    (outside → s.axes.gear = none → heardOnly none) ∧
    (∀ h c, outside → s.axes.gear = some h → c ≠ some h → ∃ t, exec (.gearConfirmSample c) s = .next t ∧ t.axes.gear = none ∧
      t.axes.shift = s.axes.shift ∧
      t = { s with
        axes := t.axes, sup := s.sup.heard .gearConfirm, kelly := { s.kelly with torque := none }
        mail := { s.mail with
          triggers := s.mail.triggers ++ [.gear]
          raises := if s.ctl.mode = .config then s.mail.raises else s.mail.raises ++ [⟨.gearShift, s.toolDepth, false⟩] } }) ∧
    (s.axes.shiftTimer = some 0 → s.axes.gear = none → ∃ t, exec .shiftTimerExpiry s = .next t ∧
      t = { s with axes := t.axes, mail := { s.mail with raises := s.mail.raises ++ [⟨.gearShift, s.toolDepth, false⟩] } } ∧
      t.axes.gear = none ∧ t.axes.valve = none ∧ t.axes.shiftTimer = none ∧ t.axes.shift = match s.axes.queuedShift with
        | some q => .pending q
        | none => .idle)

/-- Supervision: a sample outside its range, or a timer run out, puts the input in fault; the sample is discarded; the group's vector is
raised when the group had no input in fault. While the unit is in CONFIG (supervision not running) no timer counts. That a timer that is
not due changes nothing while supervision runs is log entry 4. -/
def Obligations.SensorSupervision : Prop :=
  ∀ s : State,
    (s.Quiet → s.sup.active = true →
      let out (c : Instr) (i : SensorInput) : Prop := ∃ t, exec c s = .next t ∧ s.InputFaulted i (some 50) t
      (∀ n : Int, n < 0 ∨ 1000000 < n → out (.ropePayoutSample n) .ropePayout) ∧
      (∀ (x : Int) (f : Bool), x < 0 ∨ 30000 < x → out (.ropeTensionSample x f) .ropeTension) ∧
      (∀ x : Int, s.profile.committed = true → x < 0 ∨ fig s.profile.machine.sledTravel < x → out (.sledPositionSample x) .sled) ∧
      (∀ x : Int, x < -999 ∨ 999 < x → out (.rotarySpeedSample x) .rotarySpeed) ∧
      (∀ x : Int, x < 0 ∨ 4500 < x → out (.rotaryPressureSample .a x) .rotaryA ∧ out (.rotaryPressureSample .b x) .rotaryB ∧
        out (.crowdPressureSample .cap x) .crowdCap ∧ out (.crowdPressureSample .rod x) .crowdRod) ∧
      ∀ i, s.sup.inputs[inputIndex i].timer = some 0 →
        ∃ t, exec (.sensorTimerExpiry i) s = .next t ∧ s.InputFaulted i none t) ∧
    ∀ i, s.sup.active = false ∨ s.sup.inputs[inputIndex i].timer ≠ some 0 → exec (.sensorTimerExpiry i) s = .next s

/-- A rotation that turns, or waits at rest, classifies each torque and angle. A torque at the confirm torque before the window is SEAT_EARLY
for a seating rotation and a failure, to be crept back, for an unseating one; inside the window it confirms: SEATING becomes ENGAGED with
the seat settle time started, UNSEATING a released state with the release settle time started, and the rotation lasts until the rotary is
at rest. An angle beyond the window creeps back. Anything else leaves the rotation and the interfaces as they are. The tolerance is not
negative, as the write ranges of the profile have it (StepKeepsInvariants). That a rotation which is not confirmed is over at the deciding
sample is log entry 39; that a release confirmed under an ABORT gives every channel its normal stop there is log entry 59, the model's
choice; that a stroke which is inhibited is crept back too, its boundary tested at the end of the creep back, is log entry 43 (DESIGN
CHOICE). The angle turned from a start angle that no sample has supplied yet counts as 0 (log entry 76, the model's choice). -/
def Obligations.RotationClassified : Prop :=
  ∀ (s : State) (r : Rotation), s.kelly.rotation = some r → r.stage = .turning → r.interrupted = false → s.ctl.reseat = .idle →
    s.axes.relief = none →
    (∀ y, s.seq.stroke = some y → y.phase = .seating ∨ y.phase = .unseating) → s.ctl.mode ≠ .parked → 0 ≤ fig s.profile.kelly.seatTol →
    let low := fig s.profile.kelly.seatAngle - fig s.profile.kelly.seatTol
    let high := fig s.profile.kelly.seatAngle + fig s.profile.kelly.seatTol
    let confirmed (t : State) : Option Rotation := if t.axes.rotary.atRest = true then none else some { r with stage := .resting }
    (∀ (p : RotaryPort) (x : Int), 0 ≤ x → x ≤ 4500 →
      let a := r.turned s.kelly.angle
      ∃ t, exec (.rotaryPressureSample p x) s = .next t ∧
        (∀ q, t.kelly.torque = some q → r.confirm ≤ magnitude q →
          (r.sense = .seating → a < low → t.kelly.rotation = none ∧ t.kelly.springBack = 0 ∧
            t.mail.raises = s.mail.raises ++ [⟨.seatEarly, s.toolDepth, false⟩] ∧
            ∀ (k : Fin 5) (j : Fin 8), s.kelly.st k = .seating j → (t.kelly.st k).isReleased = true ∧ t.kelly.pos k = s.kelly.pos k) ∧
          (r.sense = .seating → low ≤ a → a ≤ high → t.kelly.rotation = confirmed t ∧
            t.kelly.seatSettle = some 1000 ∧ ∀ (k : Fin 5) (j : Fin 8), s.kelly.st k = .seating j → t.kelly.st k = .engaged j) ∧
          (r.sense = .unseating → a < low → t.kelly.rotation = some { r with stage := .back } ∧
            t.kelly.interfaces = s.kelly.interfaces ∧ (s.axes.governor = .free → t.axes.rotary.request = creepSpeed * fine)) ∧
          (r.sense = .unseating → low ≤ a → a ≤ high → t.kelly.rotation = confirmed t ∧
            t.kelly.releaseSettle = some 1500 ∧ t.kelly.seatSettle = none ∧
            (r.aborted = true → s.axes.governor = .free → s.ctl.latchRequest = false → ∀ x, (t.axes.get x).request = 0) ∧
            (∀ y, s.seq.stroke = some y → ∃ z, t.seq.stroke = some z ∧
              (s.ring[y.index].order.kind = .bore → z.figures.releasedAfter = true ∧ z.outcome = y.outcome) ∧
              (s.ring[y.index].order.kind ≠ .bore → z.figures.releasedAfter = y.figures.releasedAfter)) ∧
            ∀ (k : Fin 5) (j : Fin 8), s.kelly.st k = .unseating j → (t.kelly.st k).isReleased = true ∧ t.kelly.pos k = s.kelly.pos k)) ∧
        ((∀ q, t.kelly.torque = some q → magnitude q < r.confirm ∨ high < a) →
          t.kelly.rotation = some r ∧ t.kelly.interfaces = s.kelly.interfaces ∧ t.mail = s.mail)) ∧
    ∀ (z o : Int), r.origin = some o →
      let a := if r.sense = .seating then z - o else o - z
      ∃ t, exec (.rotaryAngleSample z) s = .next t ∧ t.kelly.interfaces = s.kelly.interfaces ∧ t.kelly.angle = some z ∧ t.mail = s.mail ∧
        (high < a → t.kelly.rotation = some { r with stage := .back } ∧
          (s.axes.governor = .free → t.axes.rotary.request = if r.sense = .seating then -(creepSpeed * fine) else creepSpeed * fine)) ∧
        (a ≤ high → t.kelly.rotation = some r)

/-- How a rotation ends. A confirmed one ends when the rotary is at rest: an ENGAGE or a RELEASE is DONE and no phase is left. An
interrupted one is decided at rest by the angle reached (R35): before the window the interfaces return, from it on CHAIN_LOST is declared; a
creep back returns them, an unseating one with UNSEAT_FAILED. A creep back ends at an angle of 0 or less: the SEATING interfaces return to
released states and the attempt is made again from the same start angle while fewer than three were made and TOB and the plan hold, else
SEAT_ATTEMPTS; the UNSEATING ones return to ENGAGED with UNSEAT_FAILED, after the end of an aborted stroke. Rest is as in log entry 21; a
rotation that is not confirmed is over at the deciding event (log entry 39); an inhibited ENGAGE is stopped before the retry's checks (log
entry 41); an aborted rotation crept back gives every channel its normal stop there (log entry 59, the model's choice). That an unseating
creep back which is interrupted raises UNSEAT_FAILED at its decision also after an ABORT, not after the end of the stroke, is log entry 63
(DESIGN CHOICE). That the third overrun raises no SEAT_ATTEMPTS at the end of its creep back after an ABORT is log entry 71, and that the
angle turned from a start angle no sample has supplied counts as 0 is log entry 76: the model's choices. -/
def Obligations.RotationEnds : Prop :=
  ∀ (s : State) (r : Rotation), s.kelly.rotation = some r → s.ctl.reseat = .idle → s.axes.relief = none → s.ctl.mode ≠ .parked →
    let low := fig s.profile.kelly.seatAngle - fig s.profile.kelly.seatTol
    let ended (t : State) : Prop := t.kelly.rotation = none ∧ t.kelly.springBack = 0
    let freed (t : State) : Prop := ended t ∧
      ∀ (k : Fin 5) (j : Fin 8), s.kelly.st k = .seating j → (t.kelly.st k).isReleased = true ∧ t.kelly.pos k = s.kelly.pos k
    let relocked (t : State) : Prop := ended t ∧ ∀ (k : Fin 5) (j : Fin 8), s.kelly.st k = .unseating j → t.kelly.st k = .engaged j
    let raised (t : State) (l : List Raise) : Prop := t.mail.raises = s.mail.raises ++ l
    let lost (t : State) : Prop := t.kelly.known = false ∧ raised t [⟨.chainLost, s.toolDepth, true⟩] ∧
      (s.ctl.mode = .operating → t.ctl.mode = .surveyRequired)
    (∀ v : Int, -2 < v → v < 2 → ∃ t, exec (.rotarySpeedSample v) s = .next t ∧
      (∀ x, s.seq.stroke = some x → r.stage = .resting → ended t ∧ t.kelly.interfaces = s.kelly.interfaces ∧ t.mail = s.mail ∧
        ∃ y, t.seq.stroke = some y ∧ y.closed = true ∧
          y.outcome = if s.ring[x.index].order.kind = .engage ∨ s.ring[x.index].order.kind = .release then some (x.outcome.getD .done)
            else x.outcome) ∧
      (r.interrupted = true → s.kelly.known = true → s.axes.rotary.setpoint = 0 → 0 ≤ s.rotaryMax → s.mail.orders = [] →
        (∀ x, s.seq.stroke = some x → x.closed = true) →
        let a := r.turned s.kelly.angle
        (r.sense = .seating → r.stage = .turning → a < low → freed t ∧ raised t []) ∧
        (r.stage = .turning → low ≤ a → lost t) ∧
        (r.sense = .seating → r.stage = .back → freed t ∧ raised t []) ∧
        (r.sense = .unseating → r.stage = .turning → a < low → relocked t ∧ raised t []) ∧
        (r.sense = .unseating → r.stage = .back → relocked t ∧ raised t [⟨.unseatFailed, s.toolDepth, true⟩]))) ∧
    ∀ (x : Stroke) (z o : Int), s.seq.stroke = some x → x.phase = .creepBack → r.stage = .back → r.interrupted = false → r.origin = some o →
      let order := s.ring[x.index].order
      let a := if r.sense = .seating then z - o else o - z
      let returned : State := { s with kelly := s.kelly.release s.profile IfState.isSeating }
      ∃ t y, exec (.rotaryAngleSample z) s = .next t ∧ t.seq.stroke = some y ∧
        (0 < a → t.kelly.rotation = some r ∧ t.kelly.interfaces = s.kelly.interfaces ∧ t.mail = s.mail ∧ y = x) ∧
        (a ≤ 0 → r.aborted = true → raised t [] ∧ y.closed = true ∧
          (s.axes.governor = .free → s.ctl.latchRequest = false → ∀ c, (t.axes.get c).request = 0) ∧ (r.sense = .seating → freed t) ∧
          (r.sense = .unseating → relocked t ∧ t.kelly.unseatFailedDue = true)) ∧
        (a ≤ 0 → r.aborted = false → r.sense = .unseating → relocked t ∧ raised t [⟨.unseatFailed, s.toolDepth, false⟩] ∧ y = x ∧
          (s.axes.governor = .free → t.axes.rotary.request = 0)) ∧
        (a ≤ 0 → r.aborted = false → r.sense = .seating → x.met = false → x.closed = false →
          (∃ (k : Fin 5) (j : Fin 8), s.kelly.st k = .seating j) →
          let again : Prop := t.kelly.tob = true ∧ returned.planAligned order = true ∧ returned.planOnly order = true
          (x.figures.seatAttempts < 3 → x.inhibited = false → again → raised t [] ∧
            t.kelly.rotation = some ⟨.seating, .turning, some o, s.profile.confirmTorque, false, false⟩ ∧
            (∀ l k e, order.plan = some l → l.find? (fun e' => e'.1 = k) = some e → t.kelly.st k = .seating e.2) ∧
            y.phase = .seating ∧ y.figures.seatAttempts = x.figures.seatAttempts + 1 ∧
            (s.axes.governor = .free → t.axes.rotary.mode = .creep ∧ t.axes.rotary.request = creepSpeed * fine)) ∧
          (3 ≤ x.figures.seatAttempts ∨ (x.inhibited = false ∧ ¬ again) → freed t ∧
            raised t [⟨.seatAttempts, s.toolDepth, false⟩] ∧ y = x ∧ (s.axes.governor = .free → t.axes.rotary.request = 0)) ∧
          (x.figures.seatAttempts < 3 → x.inhibited = true → freed t ∧ raised t [] ∧ y.closed = true ∧
            y.outcome = some (x.outcome.getD .refused) ∧ (x.outcome = none → y.reason = some (x.reason.getD .inhibited))))

/-! ### The stroke in flight -/

/-- A stroke completes when its outcome is decided, no phase is left and every axis is at rest: its entry is written back and returned, the
next index advances, STROKE_DONE is set, and the sequencer enters the end state, or takes the next entry without leaving its state: SUSPENDED
where that is CONSOLE-owned; where it is UNIT-owned, HELD past it REFUSED where it fails a start check, else the next stroke, whatever its
kind. The downforce request, a shift not begun and the UNSEAT phase of a SURVEY end with the stroke, and an UNSEAT_FAILED that waited for the
end of an aborted stroke is raised there. A PARK done makes the unit PARKED. Of what is taken: a crowd in POSITION that stands at request
zero until its first sled sample is log entry 51 (DESIGN CHOICE), and an absent W_total or figure counts as 0 (log entries 47 and 32). -/
def Obligations.StrokeCompletes : Prop :=
  ∀ (s : State) (x : Stroke), s.seq.stroke = some x → ∀ o : Outcome,
    let rest : Prop := s.axes.hoist.atRest = true ∧ s.axes.crowd.atRest = true ∧ s.axes.rotary.atRest = true
    let order := s.ring[x.index].order
    let ring := s.ring.set x.index ⟨.console, order, some ⟨o, x.reason, some { x.figures with endDepth := s.toolDepth }⟩⟩
    let plain : Prop := order.kind ≠ .park ∨ (x.parkDue = none ∧ s.ctl.latchRequest = false)
    (x.outcome = none ∨ x.closed = false ∨ ¬ rest → exec .strokeCompletion s = .next s) ∧
    (x.outcome = some o → x.closed = true → rest →
      (x.endsIn ≠ .running → ∃ t, exec .strokeCompletion s = .next t ∧ t.ring = ring ∧
        t.seq = ⟨x.endsIn.seqState, x.index + 1, none⟩ ∧
        (plain → t.mail.raises = s.mail.raises ++
          if s.kelly.unseatFailedDue = true then [⟨.unseatFailed, s.toolDepth, false⟩] else []) ∧
        (plain → s.seq.state = .running → t.ctl = s.ctl ∧ t.kelly = { s.kelly with unseatFailedDue := false } ∧
          t.links = s.links.map fun c => (c.setFlags 4).setFlags 8) ∧
        (order.kind = .park → o = .done → s.ctl.mode = .operating → ∀ refs, x.parkDue = some refs →
          t.ctl.mode = .parked ∧ t.ctl.park = some ⟨order.parkKind.getD .stow, refs⟩)) ∧
      (x.endsIn = .running → plain → s.ring[x.index + 1].owner = .console → s.seq.state = .running →
        ∃ t, exec .strokeCompletion s = .next t ∧ t.ring = ring ∧ t.seq = ⟨.suspended, x.index + 1, none⟩ ∧
          t.links = s.links.map fun c => (c.setFlags 4).setFlags 8) ∧
      (x.endsIn = .running → plain → s.seq.state = .running →
        ∃ u t : State, exec .strokeCompletion s = .next t ∧ u.Takes t ∧
          u = { s with
            ring := ring, seq := ⟨.running, x.index + 1, none⟩, links := s.links.map fun c => c.setFlags 4
            kelly := { s.kelly with unseatFailedDue := false }
            limits := { s.limits with
              unseatPhase := false, downforce := none
              set := { s.limits.set with holdback := if s.limits.downforce = none then s.limits.set.holdback else none } }
            axes := u.axes
            mail := { s.mail with triggers := u.mail.triggers, raises := s.mail.raises ++
              if s.kelly.unseatFailedDue = true then [⟨.unseatFailed, s.toolDepth, false⟩] else [] } } ∧
          u.axes.governor = s.axes.governor ∧ u.axes.gear = s.axes.gear ∧ u.axes.topState = s.axes.topState ∧
          u.axes.union = s.axes.union ∧ u.axes.limits = s.axes.limits ∧ u.axes.relief = none ∧
          (∀ g, s.axes.shift = .pending g → u.axes.shift = .idle) ∧ (∀ g, s.axes.shift = .shifting g → u.axes.shift = .shifting g)) ∧
      (x.endsIn = .running → plain → s.ring[x.index + 1].owner = .unit → s.ring[x.index + 1].order.kind = .dwell →
        (s.ctl.mode = .surveyRequired ∨ s.ctl.mode = .operating) → s.kelly.rotation = none → s.ctl.reseat = .idle →
        ∃ t, exec .strokeCompletion s = .next t ∧ t.ring = ring ∧
          (∃ y, t.seq.stroke = some y ∧ y.index = x.index + 1 ∧ y.phase = .wait ∧ y.outcome = none ∧ y.endState = .running ∧
            y.figures.startDepth = s.toolDepth) ∧
          t.seq.state = s.seq.state ∧ t.seq.next = x.index + 1 ∧ t.links = s.links.map fun c => c.setFlags 4))

/-- The endings of a motion phase by the tool: a change of D past the target of a DESCEND or a HOIST, or through the advance of a BORE; TOB of a
DESCEND; the top stop of a HOIST. The outcome is decided, the closing phase begins, the winch is sent to zero. Short of its ending a change is
taken and nothing follows. A BORE then leaves RAMP_DOWN, its rotary at rest: a LOCKED one sends its crowd to zero, and at zero passes into
RELEASE_DWELL, 2.0 s with the hoist in TENSION at 5.0 kN, where its auto-release is YES and its motion ended with TARGET, SLED_END or MARK; an
inhibited one, another outcome, no auto-release and a HANGING one have no phase left. A DESCEND and a HOIST have no phase left once the winch
setpoint is zero, at the ending or at its later report. A RELEASE leaves CROWD_DOWN when the crowd setpoint is zero: the ENGAGED interfaces
become UNSEATING and the rotary creeps anticlockwise, from a start angle that is absent before any angle sample (log entry 76); an inhibited one
is stopped there, its channels given their normal stop (log entry 45): the model's choices. The phases of a PARK: a sled within 5 mm of 0 ends
SLED_UP and every request goes to zero in BRAKE (an inhibited PARK is stopped there instead), and short of it a sled 5 mm nearer restarts the
sled watch; BRAKE ends when all three channels are BRAKED, and HOLD_IN when the crowd stands at its request or its bound with the hoist and the
rotary BRAKED. The PARK is then DONE: its references are recorded from the rope depth, the sled and the angle, its end state rises to HELD, and
no phase is left. An angle not yet sampled is recorded as none (log entry 77, DESIGN CHOICE). -/
def Obligations.StrokeEndings : Prop :=
  (∀ (s : State) (x : Stroke), s.seq.stroke = some x → s.ring[x.index].order.kind = .park → x.closed = false → x.met = false →
    x.outcome = none → s.kelly.rotation = none → s.ctl.reseat = .idle → s.axes.relief = none → s.ctl.mode ≠ .parked →
    let braked (t : State) : Prop := ∀ a, (t.axes.get a).mode = .braked
    let held (t : State) : Prop := t.axes.hoist.mode = .braked ∧ t.axes.rotary.mode = .braked ∧ t.axes.crowd.mode = .force ∧
      t.axes.crowd.setpoint = t.goal .crowd
    let raised : EndState := if x.endState = .running then .held else x.endState
    let done (t : State) (y : Stroke) : Prop := y.index = x.index ∧ y.closed = true ∧ y.outcome = some .done ∧ y.reason = x.reason ∧
      y.figures = x.figures ∧ y.endState = raised ∧ y.parkDue = some ⟨t.kelly.ropeDepth, t.kelly.sled, t.kelly.angle⟩
    (∀ z : Int, x.phase = .sledUp → (s.profile.committed = true → 0 ≤ z ∧ z ≤ fig s.profile.machine.sledTravel) →
      ∃ t y, exec (.sledPositionSample z) s = .next t ∧ t.seq.stroke = some y ∧
        (magnitude z ≤ 5 → x.inhibited = false → y.phase = .brake ∧ (s.axes.governor = .free → ∀ a, (t.axes.get a).request = 0) ∧
          (braked t → done t y) ∧ (¬ braked t → y = { x with phase := .brake, sledWatch := none })) ∧
        (magnitude z ≤ 5 → x.inhibited = true → y.phase = .sledUp ∧ y.closed = true ∧ y.outcome = some .refused ∧
          y.reason = some (x.reason.getD .inhibited) ∧ y.endState = raised ∧ y.parkDue = x.parkDue) ∧
        (∀ n, x.sledWatch = some n → 5 < magnitude z →
          y = if 5 ≤ magnitude x.sledRef - magnitude z then { x with sledWatch := some 10000, sledRef := z } else x)) ∧
    (∀ a, (s.axes.get a).brake = some 0 → x.phase = .brake ∨ x.phase = .holdIn → ∃ t y, exec (.brakeTimerExpiry a) s = .next t ∧
      t.seq.stroke = some y ∧ y.phase = x.phase ∧ t.kelly = s.kelly ∧ (s.axes.keptTension = none → (t.axes.get a).mode = .braked) ∧
      (x.phase = .brake → (s.axes.keptTension = none → (∀ b, b ≠ a → (s.axes.get b).mode = .braked) → braked t) ∧
        (braked t → done t y) ∧ (¬ braked t → y = x)) ∧
      (x.phase = .holdIn → (held t → done t y) ∧ (¬ held t → y = x))) ∧
    (x.phase = .holdIn → s.axes.crowd.reached = true → ∃ t y, exec (.setpointReachesRequest .crowd) s = .next t ∧ t.seq.stroke = some y ∧
      y.phase = .holdIn ∧ t.kelly = s.kelly ∧ (held s → done t y) ∧ (¬ held s → y = x))) ∧
  (∀ (s : State) (x : Stroke), s.seq.stroke = some x → x.phase = .rampDown → x.closed = false → x.met = false → x.outcome ≠ none →
    s.kelly.rotation = none → s.ctl.reseat = .idle → s.axes.relief = none → s.ctl.mode ≠ .parked →
    let order := s.ring[x.index].order
    let goesOn : Prop := order.autoRelease = some true ∧ (x.outcome = some .target ∨ x.outcome = some .sledEnd ∨ x.outcome = some .mark)
    let free : Prop := s.axes.governor = .free
    let leaves (t : State) (y : Stroke) : Prop :=
      (goesOn → x.inhibited = false → y.phase = .releaseDwell ∧ y.releaseDwell = some 2000 ∧ y.closed = false ∧ y.outcome = x.outcome ∧
        y.endState = x.endState ∧ y.figures = x.figures ∧
        (free → holds s.axes.union .hoistUp = false → holds s.axes.union .hoistDown = false → 50 ≤ s.axes.limits.hoistLine →
          t.axes.hoist.mode = .tension ∧ t.axes.hoist.request = 50 * fine)) ∧
      (¬ goesOn ∨ x.inhibited = true → y.phase = .rampDown ∧ y.closed = true ∧ y.outcome = x.outcome ∧ y.figures = x.figures)
    (∀ v : Int, -2 < v → v < 2 → ∃ t y, exec (.rotarySpeedSample v) s = .next t ∧ t.seq.stroke = some y ∧
      (order.isLocked = true → t.axes.crowd.setpoint ≠ 0 → y = { x with unloading := true, windowWatch := false } ∧
        (x.unloading = false → free → t.axes.crowd.request = 0)) ∧
      (order.isLocked = true → t.axes.crowd.setpoint = 0 → leaves t y) ∧
      (order.isHanging = true → y.phase = .rampDown ∧ y.closed = true ∧ y.outcome = x.outcome ∧ y.windowWatch = false)) ∧
    (order.isLocked = true → x.unloading = true → s.axes.rotary.atRest = true → s.axes.crowd.reached = true → s.axes.crowd.setpoint = 0 →
      ∃ t y, exec (.setpointReachesRequest .crowd) s = .next t ∧ t.seq.stroke = some y ∧ leaves t y) ∧
    (order.kind = .descend ∨ order.kind = .hoist → s.axes.hoist.reached = true →
      ∃ t y, exec (.setpointReachesRequest .hoist) s = .next t ∧ t = { s with axes := t.axes, seq := { s.seq with stroke := some y } } ∧
        (s.axes.hoist.setpoint ≠ 0 → y = x) ∧
        (s.axes.hoist.setpoint = 0 → y.index = x.index ∧ y.phase = .rampDown ∧ y.closed = true ∧ y.outcome = x.outcome ∧
          y.reason = x.reason ∧ y.endState = x.endState ∧ y.figures = x.figures))) ∧
  (∀ (s : State) (x : Stroke), s.seq.stroke = some x → x.phase = .crowdDown → x.closed = false → x.met = false → s.kelly.rotation = none →
    s.ctl.reseat = .idle → s.axes.relief = none → s.axes.crowd.reached = true →
    let free : Prop := s.axes.governor = .free
    ∃ t y, exec (.setpointReachesRequest .crowd) s = .next t ∧ t.seq = { s.seq with stroke := some y } ∧ t.ring = s.ring ∧
      (s.axes.crowd.setpoint ≠ 0 → y = x ∧ t.kelly = s.kelly) ∧
      (s.axes.crowd.setpoint = 0 → x.inhibited = false → y = { x with phase := .unseating } ∧
        t.kelly.rotation = some ⟨.unseating, .turning, s.kelly.angle, s.profile.confirmTorque, false, false⟩ ∧
        (∀ i j, s.kelly.st i = .engaged j → t.kelly.st i = .unseating j) ∧
        (∀ i, (s.kelly.st i).isEngaged = false → t.kelly.st i = s.kelly.st i) ∧ (∀ i, t.kelly.pos i = s.kelly.pos i) ∧
        (free → t.axes.rotary.mode = .creep ∧ t.axes.rotary.request = -(creepSpeed * fine))) ∧
      (s.axes.crowd.setpoint = 0 → x.inhibited = true → t.kelly = s.kelly ∧ y.index = x.index ∧ y.phase = .crowdDown ∧ y.closed = true ∧
        y.outcome = some (x.outcome.getD .refused) ∧ (x.outcome = none → y.reason = some (x.reason.getD .inhibited)) ∧
        y.endState = (if x.endState = .running then .held else x.endState) ∧ y.figures = x.figures ∧
        (free ∨ s.axes.governor = .normal → s.ctl.latchRequest = false → ∀ a, (t.axes.get a).request = 0))) ∧
  ∀ (s : State) (x : Stroke), s.seq.stroke = some x → x.inMotion = true → x.inhibited = false → s.kelly.rotation = none →
    s.ctl.reseat = .idle → s.axes.relief = none →
    let order := s.ring[x.index].order
    let winch : Prop := order.kind = .descend ∨ order.kind = .hoist
    let closes (t : State) (y : Stroke) : Prop := y.closed = true ↔ t.axes.hoist.setpoint = 0
    (∀ c rest, s.mail.depthSeq = c :: rest →
      let taken : Mail := { s.mail with depthSeq := rest }
      let reached : Prop := (order.kind = .descend ∧ fig order.targetDepth ≤ c.new) ∨
        (order.kind = .hoist ∧ order.toTop ≠ some true ∧ c.new ≤ fig order.targetDepth)
      (reached → ∃ t, exec .depthChangeAtSequencer s = .next t ∧ t = { s with axes := t.axes, seq := t.seq, mail := taken } ∧
        (∃ y, t.seq.stroke = some y ∧ y.outcome = some .target ∧ y.phase = .rampDown ∧ y.index = x.index ∧
          y.endState = x.endState ∧ y.reason = x.reason ∧ y.figures = x.figures ∧ closes t y) ∧
        (s.axes.governor = .free → t.axes.hoist.request = 0)) ∧
      (winch → ¬ reached → exec .depthChangeAtSequencer s = .next { s with mail := taken }) ∧
      (∀ a, x.origin = some a → order.kind = .bore → (x.phase = .rampUp ∨ x.phase = .advance) → x.advance ≤ c.new - a →
        ∃ t, exec .depthChangeAtSequencer s = .next t ∧ t.ring = s.ring ∧
          ∃ y, t.seq.stroke = some y ∧ y.index = x.index ∧
            y.outcome = some (if order.boreMode = some .locked ∧ x.advanceClamped = true then .sledEnd else .target)) ∧
      (∀ a, x.origin = some a → order.kind = .bore → c.new - a < x.advance →
        exec .depthChangeAtSequencer s = .next { s with mail := taken })) ∧
    (∀ b rest, s.mail.tobSeq = b :: rest →
      let taken : Mail := { s.mail with tobSeq := rest }
      (b = true → order.kind = .descend → ∃ t, exec .tobChangeAtSequencer s = .next t ∧
        t = { s with axes := t.axes, seq := t.seq, mail := taken } ∧
        (∃ y, t.seq.stroke = some y ∧ y.outcome = some .bottom ∧ y.phase = .rampDown ∧ y.index = x.index ∧
          y.endState = x.endState ∧ y.figures = x.figures ∧ closes t y) ∧
        (s.axes.governor = .free → t.axes.hoist.request = 0)) ∧
      (b = false ∨ order.kind ≠ .descend → exec .tobChangeAtSequencer s = .next { s with mail := taken })) ∧
    (order.kind = .hoist → s.axes.topState = some false → ∃ t, exec (.topStopSample true) s = .next t ∧
      t = { s with axes := t.axes, sup := t.sup, seq := t.seq, mail := t.mail } ∧
      (∃ y, t.seq.stroke = some y ∧ y.outcome = some .top ∧ y.phase = .rampDown ∧ y.endState = x.endState ∧ closes t y) ∧
      (s.axes.governor = .free → t.axes.hoist.request = 0))

/-- Samples at a stroke in flight. A SLED ends with TARGET within 5 mm of its target, its channels stopped (log entry 46), and a sled 5 mm nearer
restarts the sled watch. A LOCKED BORE with the sled at the end of its travel ends with SLED_END, or with TARGET where the same sample brings an
advance that was not clamped. A turn of a SPIN stops at 180.0 degrees; at rest the next begins, or the last leaves DONE. A rotary at rest in
RAMP_DOWN ends the window watch of a HANGING BORE, whatever has met the stroke. The record's peaks rise with torque, crowd force and tension. The
stall timer runs while a BORE turns clockwise at 95 % of its torque limit below 1.0 rpm. A tension below 5.0 kN as a DESCEND pays out off the
bottom is SLACK_ROPE, one above the hoist line limit in a HOIST OVERPULL, each once, by the TOB as the channel finds it (log entry 27). A relief
turn (R135): at rest it records the angle and turns anticlockwise at the working speed; half the seat angle of a LOCKED BORE, or 90.0 degrees of
a HANGING one, sends the rotary to zero; at rest it ends, the rotary turns clockwise again, and the crowd of a LOCKED BORE has the request of its
phase again. An origin taken before any angle sample is recorded as none (log entry 76, the model's choice). -/
def Obligations.SamplesAtStroke : Prop :=
  (∀ (s : State) (x : Stroke), s.seq.stroke = some x → s.kelly.rotation = none → s.ctl.reseat = .idle → s.axes.relief = none →
    s.ctl.mode ≠ .parked →
    let order := s.ring[x.index].order
    let free : Prop := s.axes.governor = .free
    let slow (t : State) (q v : Option Int) : Prop :=
      let stalls : Prop := 0 < s.axes.rotary.setpoint ∧ ∃ a b, q = some a ∧ v = some b ∧
        95 * s.axes.limits.torque ≤ 100 * magnitude a ∧ magnitude b < 10
      (stalls → t.axes.stallTimer = some (s.axes.stallTimer.getD 1500)) ∧ (¬ stalls → t.axes.stallTimer = none)
    (∀ z : Int, (s.profile.committed = true → 0 ≤ z ∧ z ≤ fig s.profile.machine.sledTravel) →
      ∃ t y, exec (.sledPositionSample z) s = .next t ∧ t.seq.stroke = some y ∧
        (order.kind = .sled → x.phase = .move → x.inMotion = true →
          (magnitude (x.sledTarget - z) ≤ 5 → y.outcome = some .target ∧ y.closed = true ∧ y.endState = x.endState ∧ y.figures = x.figures ∧
            (free ∨ s.axes.governor = .normal → s.ctl.latchRequest = false → ∀ a, (t.axes.get a).request = 0)) ∧
          (∀ n, x.sledWatch = some n → 5 < magnitude (x.sledTarget - z) →
            y = if 5 ≤ magnitude (x.sledTarget - x.sledRef) - magnitude (x.sledTarget - z) then { x with sledWatch := some 10000, sledRef := z }
              else x)) ∧
        ∀ b d u o : Int, order.isLocked = true → x.boring = true → s.chainEngaged = true → s.kelly.sled = some b → s.toolDepth = some d →
          s.unplaced = some u → magnitude (u - (z - b)) ≤ 100 → x.origin = some o → fig s.profile.machine.sledTravel ≤ z →
          y.outcome = some (if x.advanceClamped = false ∧ x.advance ≤ d + (z - b) - o then .target else .sledEnd) ∧ y.index = x.index) ∧
    (∀ z o : Int, x.phase = .turnCw ∨ x.phase = .turnCcw → x.closed = false → x.met = false → x.turnStopping = false →
      x.turnOrigin = some o → s.axes.rotary.atRest = false → s.sup.inFault .rotarySpeed = false →
      let a := if x.phase = .turnCw then z - o else o - z
      ∃ t, exec (.rotaryAngleSample z) s = .next t ∧ (a < 1800 → t.seq = s.seq) ∧
        (1800 ≤ a → t.seq = { s.seq with stroke := some { x with turnStopping := true } } ∧ (free → t.axes.rotary.request = 0))) ∧
    (∀ v : Int, -999 ≤ v → v ≤ 999 → ∃ t y, exec (.rotarySpeedSample v) s = .next t ∧ t.seq.stroke = some y ∧
      (x.boring = true → slow t s.kelly.torque (some v)) ∧
      (x.phase = .rampDown → -2 < v → v < 2 → y.windowWatch = false) ∧
      (-2 < v → v < 2 → x.phase = .turnCw ∨ x.phase = .turnCcw → x.closed = false → x.met = false → x.inhibited = false →
        x.turnStopping = true →
        let next (cw : Bool) (n : Nat) : Prop :=
          y = { x with phase := if cw = true then .turnCw else .turnCcw, turnOrigin := s.kelly.angle, turnStopping := false, cyclesLeft := n } ∧
          (free → t.axes.rotary.mode = .speed ∧ t.axes.rotary.request = if cw = true then x.rotarySpeed * fine else -(x.rotarySpeed * fine))
        (x.phase = .turnCw → next false x.cyclesLeft) ∧ (x.phase = .turnCcw → 1 < x.cyclesLeft → next true (x.cyclesLeft - 1)) ∧
        (x.phase = .turnCcw → x.cyclesLeft ≤ 1 → y.outcome = some (x.outcome.getD .done) ∧ y.closed = true))) ∧
    (∀ (p : RotaryPort) (v : Int), 0 ≤ v → v ≤ 4500 → ∃ t y, exec (.rotaryPressureSample p v) s = .next t ∧ t.seq.stroke = some y ∧
      (∀ q, t.kelly.torque = some q → y.figures.peakTorque = max x.figures.peakTorque (magnitude q)) ∧
      (x.boring = true → slow t t.kelly.torque s.kelly.speed)) ∧
    (∀ (p : CrowdPort) (v : Int), 0 ≤ v → v ≤ 4500 → ∃ t y, exec (.crowdPressureSample p v) s = .next t ∧ t.seq.stroke = some y ∧
      ∀ f, t.kelly.crowdForce = some f → y.figures.peakPush = max x.figures.peakPush f ∧ y.figures.peakPull = max x.figures.peakPull (-f)) ∧
    ∀ (v : Int) (first : Bool), 0 ≤ v → v ≤ 30000 → ∃ t y, exec (.ropeTensionSample v first) s = .next t ∧ t.seq.stroke = some y ∧
      y.figures.peakTension = max x.figures.peakTension v ∧
      (order.kind = .descend ∨ order.kind = .hoist → x.phase = .run ∨ x.phase = .rampDown →
        let slack : Prop := order.kind = .descend ∧ v < 50 ∧ 0 < s.axes.hoist.setpoint ∧ s.axes.slackLatch = false ∧
          (if first = true then s.kelly.tob else t.kelly.tob) = false
        let overpull : Prop := order.kind = .hoist ∧ s.limits.set.hoistLine < v ∧ s.axes.overpullLatch = false
        (slack → t.mail.raises = s.mail.raises ++ [⟨.slackRope, s.toolDepth, false⟩] ∧ t.axes.slackLatch = true) ∧
        (overpull → t.mail.raises = s.mail.raises ++ [⟨.overpull, s.toolDepth, false⟩] ∧ t.axes.overpullLatch = true) ∧
        (¬ slack → ¬ overpull → t.mail.raises = s.mail.raises ∧ t.axes.slackLatch = s.axes.slackLatch ∧
          t.axes.overpullLatch = s.axes.overpullLatch))) ∧
  ∀ (s : State) (x : Stroke) (r : Relief), s.seq.stroke = some x → x.boring = true → s.axes.relief = some r → s.kelly.rotation = none →
    s.ctl.reseat = .idle → s.ctl.mode ≠ .parked →
    let order := s.ring[x.index].order
    let free : Prop := s.axes.governor = .free
    let turns (t : State) (v : Int) : Prop := free → t.axes.rotary.mode = .speed ∧ t.axes.rotary.request = v * fine
    (∀ v : Int, -999 ≤ v → v ≤ 999 → ∃ t, exec (.rotarySpeedSample v) s = .next t ∧
      t = { s with axes := t.axes, sup := s.sup.heard .rotarySpeed, kelly := { s.kelly with speed := some v } } ∧
      (v ≤ -2 ∨ 2 ≤ v → t.axes.relief = some r) ∧
      (-2 < v → v < 2 → r.stage = .stopping → t.axes.relief = some ⟨.turning, s.kelly.angle⟩ ∧ turns t (-x.rotarySpeed)) ∧
      (-2 < v → v < 2 → r.stage = .turning → t.axes.relief = some r) ∧
      (-2 < v → v < 2 → r.stage = .unwinding → t.axes.relief = none ∧ turns t x.rotarySpeed ∧
        (order.isLocked = true → free → t.axes.crowd.mode = .force ∧ t.axes.crowd.request =
          min (if x.phase = .advance then fig order.push else fig s.profile.kelly.holdIn) s.limits.set.push * fine))) ∧
    ∀ z o : Int, r.origin = some o → s.axes.rotary.atRest = false → s.sup.inFault .rotarySpeed = false →
      let turned : Prop := if order.isLocked = true then fig s.profile.kelly.seatAngle ≤ 2 * (o - z) else 900 ≤ o - z
      ∃ t, exec (.rotaryAngleSample z) s = .next t ∧ t.seq = s.seq ∧
        (r.stage = .turning → turned → t.axes.relief = some ⟨.unwinding, some o⟩ ∧ (free → t.axes.rotary.request = 0)) ∧
        (r.stage ≠ .turning ∨ ¬ turned → t.axes.relief = some r)

/-- A SURVEY. START on a UNIT-owned one that passes its checks withdraws a known model without a raise and begins UNSEAT, an anticlockwise creep
under its watch. In UNSEAT a torque in the window sets RELEASED_AFTER; an angle past the window stops the creep, and at rest RAISE begins with
the hoist in SPEED, its brake released, reeling in at a fifth of the winch speed or, with the top stop ON, at zero. In RAISE the stuck watch
follows tension and rope, and the top stop stops the winch; at rest NEST makes the model known, every interface at 0, and the unit OPERATING with
the outcome DONE, or raises SURVEY_FAILED. The rope sample that finds the hoist at rest is taken by the kelly model first, and its NEST judges
the rope depth it leaves. An inhibited SURVEY stops at either boundary. NEST falls on the event that finds the hoist at rest, another sample
where it is at rest already (log entry 22), and changes the mode out of SURVEY_REQUIRED alone (log entry 38). The torque is compared by its
magnitude (log entry 67). A stuck watch that starts before any payout sample records no count (log entry 66, DESIGN CHOICE). A zero interval
between two rope samples counts as 1 ms (log entry 11). Once the stuck watch has expired, as StrokeTimers has it, no sample makes the model known
and the stroke stays as it is until it is met (R171); that it then keeps no stuck watch and reaches no boundary is log entry 75, and that the
UNSEAT of a SURVEY records no start angle before any angle sample is log entry 76: the model's choices. -/
def Obligations.SurveyRuns : Prop :=
  (∀ (q : Request) (rest : List Request) (s : State), s.demands .console 1 q rest → s.seq.state = .stopped → s.faults.state = .clear →
    let k := s.seq.next
    s.ring[k].owner = .unit → s.kelly.rotation = none → s.ctl.reseat = .idle → s.axes.relief = none → s.ring[k].order.kind = .survey →
    s.Passes s.ring[k].order →
    ∃ t x, exec (.start .console) s = .next t ∧ t.seq = ⟨.running, k, some x⟩ ∧ x.index = k ∧ x.phase = .unseat ∧ x.outcome = none ∧
      x.closed = false ∧ x.unseatOrigin = s.kelly.angle ∧ x.unseatConfirm = s.profile.confirmTorque ∧ x.unseatPassed = false ∧
      x.unseatWatch = some 30000 ∧ x.figures = Figures.fresh s.toolDepth (decide (2 ≤ s.kelly.debt)) ∧ t.kelly.known = false ∧
      (s.kelly.known = true → ∀ i : Fin 5, t.kelly.interfaces[i] = ⟨.unknown, none⟩) ∧ (s.kelly.known = false → t.kelly = s.kelly) ∧
      (s.kelly.known = true ∨ s.ctl.mode = .surveyRequired → t.ctl = { s.ctl with mode := .surveyRequired }) ∧
      t.limits = { s.limits with unseatPhase := true } ∧ Trigger.unseat ∈ t.mail.triggers ∧ t.mail.raises = s.mail.raises ∧ t.ring = s.ring ∧
      (s.axes.governor = .free → t.axes.rotary.mode = .creep ∧ t.axes.rotary.request = -(creepSpeed * fine) ∧
        t.axes.hoist.request = 0 ∧ t.axes.crowd.request = 0)) ∧
  (∀ (s : State) (x : Stroke), s.seq.stroke = some x → x.phase = .raise → x.closed = true → s.kelly.rotation = none →
    s.ctl.reseat = .idle → s.axes.relief = none → s.ctl.mode ≠ .parked → s.kelly.known = false →
    (∀ v : Int, -999 ≤ v → v ≤ 999 → ∃ t, exec (.rotarySpeedSample v) s = .next t ∧
      t = { s with axes := t.axes, sup := s.sup.heard .rotarySpeed, kelly := { s.kelly with speed := some v } }) ∧
    (∀ on, ∃ t, exec (.topStopSample on) s = .next t ∧ t = { s with axes := t.axes, sup := s.sup.heard .topStop }) ∧
    (∀ (v : Int) (first : Bool), 0 ≤ v → v ≤ 30000 → ∃ t y, exec (.ropeTensionSample v first) s = .next t ∧ t.seq.stroke = some y ∧
      t.kelly.known = false ∧ t.ctl = s.ctl ∧ y = { x with figures := y.figures }) ∧
    ∀ n : Int, 0 ≤ n → n ≤ 1000000 → ∃ t y, exec (.ropePayoutSample n) s = .next t ∧ t.seq.stroke = some y ∧ t.kelly.known = false ∧
      t.ctl = s.ctl ∧ y = { x with figures := y.figures, stuckWatch := y.stuckWatch, stuckCount := y.stuckCount }) ∧
  ∀ (s : State) (x : Stroke), s.seq.stroke = some x → x.closed = false → x.met = false → s.ring[x.index].order.kind = .survey →
    s.kelly.rotation = none → s.ctl.reseat = .idle → s.axes.relief = none → s.ctl.mode ≠ .parked → s.kelly.known = false →
    s.kelly.tob = false →
    let low := fig s.profile.kelly.seatAngle - fig s.profile.kelly.seatTol
    let high := fig s.profile.kelly.seatAngle + fig s.profile.kelly.seatTol
    let free : Prop := s.axes.governor = .free
    let stopped (y : Stroke) : Prop := y.phase = x.phase ∧ y.closed = true ∧ y.outcome = some (x.outcome.getD .refused) ∧
      (x.outcome = none → y.reason = some (x.reason.getD .inhibited)) ∧ y.endState = if x.endState = .running then .held else x.endState
    (∀ z o : Int, x.phase = .unseat → x.unseatPassed = false → x.unseatOrigin = some o → s.axes.rotary.atRest = false →
      s.sup.inFault .rotarySpeed = false →
      ∃ t, exec (.rotaryAngleSample z) s = .next t ∧ t = { s with
          axes := t.axes, sup := s.sup.heard .rotaryAngle, seq := t.seq
          kelly := { s.kelly with angle := some z, springBack := t.kelly.springBack } } ∧
        (o - z ≤ high → t.seq = s.seq) ∧
        (∀ n, x.unseatWatch = some n → high < o - z →
          t.seq = { s.seq with stroke := some { x with unseatPassed := true, unseatWatch := none } } ∧ (free → t.axes.rotary.request = 0))) ∧
    (∀ (p : RotaryPort) (v o a : Int), x.phase = .unseat → x.unseatPassed = false → x.unseatOrigin = some o → s.kelly.angle = some a →
      0 ≤ v → v ≤ 4500 →
      ∃ t y, exec (.rotaryPressureSample p v) s = .next t ∧ t.seq.stroke = some y ∧ y.phase = .unseat ∧ y.outcome = x.outcome ∧
        t.axes.rotary.request = s.axes.rotary.request ∧
        (y.figures.releasedAfter = true ↔ x.figures.releasedAfter = true ∨
          ∃ q, t.kelly.torque = some q ∧ x.unseatConfirm ≤ magnitude q ∧ low ≤ o - a ∧ o - a ≤ high)) ∧
    (∀ v : Int, x.phase = .unseat → x.unseatPassed = true → -2 < v → v < 2 →
      ∃ t y, exec (.rotarySpeedSample v) s = .next t ∧ t.seq.stroke = some y ∧ t.limits = { s.limits with unseatPhase := false } ∧
        (x.inhibited = true ∨ s.axes.topState ≠ some true →
          t.mail.triggers = if s.limits.unseatPhase = true then s.mail.triggers ++ [.unseat] else s.mail.triggers) ∧
        (x.inhibited = true → stopped y) ∧
        (x.inhibited = false → s.axes.topState = some true → s.axes.hoist.atRest = false → s.sup.inFault .ropePayout = false →
          y = { x with phase := .raise, raiseStopping := true } ∧ (free → t.axes.hoist.mode = .speed ∧ t.axes.hoist.request = 0 ∧
            t.axes.hoist.brakeApplied = false ∧ t.axes.crowd.request = 0 ∧ t.axes.rotary.request = 0)) ∧
        (x.inhibited = false → s.axes.topState ≠ some true → y = { x with phase := .raise, raiseStopping := false } ∧
          (free → t.axes.hoist.mode = .speed ∧ t.axes.hoist.request = -(fig s.profile.machine.winchMax * fine / 5) ∧
            t.axes.hoist.brakeApplied = false ∧ t.axes.crowd.request = 0 ∧ t.axes.rotary.request = 0))) ∧
    (∀ (v w : Int) (first : Bool), x.phase = .raise → x.raiseStopping = false → 0 ≤ v → v ≤ 30000 → s.limits.dry.total = some w →
      ∃ t y, exec (.ropeTensionSample v first) s = .next t ∧ t.seq.stroke = some y ∧ y.phase = .raise ∧
        (5 * v ≤ 6 * w → y.stuckWatch = none) ∧
        (6 * w < 5 * v → y.stuckWatch = some (x.stuckWatch.getD 2000) ∧
          y.stuckCount = if x.stuckWatch = none then s.kelly.ropeBaseline else x.stuckCount)) ∧
    (∀ n b c : Int, x.phase = .raise → x.raiseStopping = false → 0 ≤ n → n ≤ 1000000 → s.kelly.ropeBaseline = some b → x.stuckCount = some c →
      ∃ t y, exec (.ropePayoutSample n) s = .next t ∧ t.seq.stroke = some y ∧ y.phase = .raise ∧
        (50 ≤ magnitude (n - c) → y.stuckWatch = none ∧ y.stuckCount = none) ∧
        (magnitude (n - c) < 50 → y.stuckWatch = x.stuckWatch ∧ y.stuckCount = some c)) ∧
    (s.sup.inFault .ropePayout = false →
      (x.phase = .raise → x.raiseStopping = false → s.axes.topState = some false → s.axes.hoist.atRest = false →
        ∃ t, exec (.topStopSample true) s = .next t ∧ t.seq = { s.seq with stroke := some { x with raiseStopping := true } } ∧
          (free → t.axes.hoist.request = 0)) ∧
      (∀ v : Int, x.phase = .raise → x.raiseStopping = true → s.axes.hoist.atRest = true → -999 ≤ v → v ≤ 999 →
        let top := fig s.profile.machine.rTop
        let nests : Prop := ∃ r d, s.kelly.ropeDepth = some r ∧ s.driveDepth = some d ∧ magnitude (r - top) ≤ 200 ∧
          magnitude (top + s.profile.topToTip - (d + s.profile.nestedReach)) ≤ 100
        ∃ t y, exec (.rotarySpeedSample v) s = .next t ∧ t.seq.stroke = some y ∧
          (x.inhibited = true → stopped y ∧ t.kelly.known = false) ∧
          (x.inhibited = false → nests → y.phase = .nest ∧ y.outcome = some (x.outcome.getD .done) ∧ y.closed = true ∧
            t.kelly.known = true ∧ t.kelly.ropeDepth = some top ∧ t.kelly.latch = false ∧ t.kelly.accumulator = 0 ∧ t.kelly.debt = 0 ∧
            (∀ i : Fin 5, i.val < s.profile.count → t.kelly.interfaces[i].position = some 0 ∧ (t.kelly.st i).isReleased = true) ∧
            (∀ d, s.driveDepth = some d → t.toolDepth = some (d + s.profile.nestedReach)) ∧ Trigger.engagement ∈ t.mail.triggers ∧
            t.mail.raises = s.mail.raises ∧ t.ctl.mode = if s.ctl.mode = .surveyRequired then .operating else s.ctl.mode) ∧
          (x.inhibited = false → ¬ nests → y.phase = .nest ∧ y.outcome = x.outcome ∧ y.closed = false ∧ y.stuckWatch = none ∧
            t.kelly = { s.kelly with speed := some v } ∧ t.ctl = s.ctl ∧
            t.mail.raises = s.mail.raises ++ [⟨.surveyFailed, none, false⟩]))) ∧
    ∀ n b : Int, x.phase = .raise → x.raiseStopping = true → 0 ≤ n → n ≤ 1000000 → s.kelly.ropeBaseline = some b →
      let run := magnitude (n - b)
      let stands : Prop := run * 1000 < 5 * ((max 1 s.axes.sinceRope : Nat) : Int)
      let top := fig s.profile.machine.rTop
      let rope := s.kelly.ropeDepth.map (· + (n - b))
      let debt := min 4 (s.kelly.debt + (s.kelly.accumulator + run) / 12000)
      let nests : Prop := ∃ r d, rope = some r ∧ s.driveDepth = some d ∧ magnitude (r - top) ≤ 200 ∧
        magnitude (top + s.profile.topToTip - (d + s.profile.nestedReach)) ≤ 100
      let overrun : Prop := s.ctl.mode ≠ .config ∧ s.axes.topState = some true ∧ s.axes.topLatch = false ∧
        ∃ k, s.axes.topCount = some k ∧ n < k - 100
      let moved : Kelly := { s.kelly with
        ropeBaseline := some n, ropeDepth := rope, accumulator := (s.kelly.accumulator + run) % 12000, debt := debt }
      let raised (t : State) (l : List Raise) : Prop :=
        let due : List Raise := if debt ≠ s.kelly.debt ∧ debt = 4 then [⟨.datumOverdue, none, false⟩] else []
        (overrun → t.mail.raises = s.mail.raises ++ due ++ [⟨.topStop, none, false⟩] ++ l) ∧ (¬ overrun → t.mail.raises = s.mail.raises ++ due ++ l)
      ∃ t y, exec (.ropePayoutSample n) s = .next t ∧ t.seq.stroke = some y ∧ y.index = x.index ∧
        (¬ stands → y.phase = .raise ∧ y.outcome = x.outcome ∧ y.closed = false ∧ t.kelly = moved ∧ t.ctl = s.ctl ∧ raised t []) ∧
        (stands → x.inhibited = true → stopped y ∧ t.kelly = moved ∧ t.ctl = s.ctl ∧ raised t []) ∧
        (stands → x.inhibited = false → nests → y.phase = .nest ∧ y.outcome = some (x.outcome.getD .done) ∧ y.closed = true ∧
          t.kelly.known = true ∧ t.kelly.ropeDepth = some top ∧ t.kelly.latch = false ∧ t.kelly.accumulator = 0 ∧ t.kelly.debt = 0 ∧
          (∀ i : Fin 5, i.val < s.profile.count → t.kelly.interfaces[i].position = some 0 ∧ (t.kelly.st i).isReleased = true) ∧
          (∀ d, s.driveDepth = some d → t.toolDepth = some (d + s.profile.nestedReach)) ∧ Trigger.engagement ∈ t.mail.triggers ∧
          raised t [] ∧ t.ctl.mode = if s.ctl.mode = .surveyRequired then .operating else s.ctl.mode) ∧
        (stands → x.inhibited = false → ¬ nests → y.phase = .nest ∧ y.outcome = x.outcome ∧ y.closed = false ∧ y.stuckWatch = none ∧
          t.kelly = moved ∧ t.ctl = s.ctl ∧ raised t [⟨.surveyFailed, none, false⟩])

/-- The mark comparator takes a change of D: every armed mark it crosses becomes REACHED, MARK is set once, and the action meets the stroke in
flight: in its motion phase END_STROKE or HOLD ends the motion with MARK, and HOLD raises the end state to HELD in any phase. The motion of
a DESCEND, a HOIST and a BORE passes into RAMP_DOWN, its winch or its rotary sent to zero; a kind without closing phases has none left and
its channels get their normal stop (log entry 46, the model's choice). An inhibited DESCEND, HOIST or BORE ends its motion with MARK too, but
the passage is a boundary: it begins no RAMP_DOWN, its end state rises to HELD, and its channels get their normal stop there (log entry 45,
the model's choice). -/
def Obligations.MarkCrossing : Prop :=
  ∀ (s : State) (c : DepthChange) (rest : List DepthChange), s.mail.depthMark = c :: rest →
    let taken : Mail := { s.mail with depthMark := rest }
    let crossing : Prop := ∃ k : Fin 8, s.marks[k].Crosses c
    let hold : Prop := ∃ k : Fin 8, s.marks[k].Crosses c ∧ s.marks[k].action = .hold
    let ends : Prop := ∃ k : Fin 8, s.marks[k].Crosses c ∧ s.marks[k].action = .endStroke
    (¬ crossing → exec .markCrossingTest s = .next { s with mail := taken }) ∧
    (crossing → ∃ t, exec .markCrossingTest s = .next t ∧
      (∀ k : Fin 8, s.marks[k].Crosses c → t.marks[k] = { s.marks[k] with state := .reached }) ∧
      (∀ k : Fin 8, ¬ s.marks[k].Crosses c → t.marks[k] = s.marks[k]) ∧
      (s.kelly.rotation = none → s.ctl.reseat = .idle → t.links = s.links.map fun k => k.setFlags 16) ∧
      (s.seq.stroke = none → t = { s with marks := t.marks, links := t.links, mail := taken }) ∧
      (∀ x, s.seq.stroke = some x → ¬ hold → ¬ ends → t = { s with marks := t.marks, links := t.links, mail := taken }) ∧
      (∀ x, s.seq.stroke = some x → x.inMotion = false →
        t = { s with
          marks := t.marks, links := t.links, mail := taken
          seq := { s.seq with stroke := some { x with endState := t.seq.stroke.elim x.endState (·.endState) } } } ∧
        ∃ y, t.seq.stroke = some y ∧ (hold → y.endState = if x.endState = .running then .held else x.endState) ∧
          (¬ hold → y.endState = x.endState)) ∧
      (∀ x, s.seq.stroke = some x → x.inMotion = true → s.kelly.rotation = none → s.ctl.reseat = .idle → hold ∨ ends →
        let order := s.ring[x.index].order
        let winch : Prop := order.kind = .descend ∨ order.kind = .hoist
        let closing : Prop := winch ∨ order.kind = .bore
        let free : Prop := s.axes.governor = .free
        ∃ y, t.seq.stroke = some y ∧ y.outcome = some .mark ∧ y.reason = x.reason ∧ y.index = x.index ∧ y.figures = x.figures ∧
          (hold ∨ (closing ∧ x.inhibited = true) → y.endState = if x.endState = .running then .held else x.endState) ∧
          (¬ hold → ¬ (closing ∧ x.inhibited = true) → y.endState = x.endState) ∧
          (winch → x.inhibited = false → y.phase = .rampDown ∧
            t = { s with marks := t.marks, links := t.links, mail := taken, seq := t.seq, axes := t.axes } ∧
            (free → t.axes.hoist.request = 0)) ∧
          (order.kind = .bore → x.inhibited = false → t.axes.relief = none ∧ t.axes.stallTimer = none ∧
            (order.boreMode ≠ none → free → t.axes.rotary.request = 0) ∧
            (order.boreMode = some .hanging → t.limits.downforce = none) ∧
            (order.boreMode ≠ none → s.axes.rotary.atRest = false → s.sup.inFault .rotarySpeed = false → y.phase = .rampDown ∧
              t = { s with marks := t.marks, links := t.links, mail := taken, seq := t.seq, axes := t.axes, limits := t.limits } ∧
              (order.boreMode = some .locked → free →
                t.axes.crowd.request = min (fig s.profile.kelly.holdIn) s.limits.set.push * fine))) ∧
          (¬ closing ∨ x.inhibited = true → y.phase = x.phase ∧ y.closed = true ∧ t.axes.relief = none ∧ t.axes.stallTimer = none ∧
            t = { s with marks := t.marks, links := t.links, mail := taken, seq := t.seq, axes := t.axes } ∧
            (free ∨ s.axes.governor = .normal → s.ctl.latchRequest = false → ∀ a, (t.axes.get a).request = 0))))

/-! ### The limit set -/

/-- A recomputation takes its trigger, forms the whole set, and hands it to the channels, the sequencer and the model. While the model is
UNKNOWN the set is the one R104 gives, every limit 0.0 and every term absent, with the torque limit, the rotation cap and the torque term
alone formed in a SURVEY's UNSEAT phase, by the same rule as with the model known (R113, R116). The limits of a known model from its terms:
the five steps of the push limit with the binding term, the pull limit, the torque limit, the rotation cap, the hoist line limit and the
holdback. Where several steps leave the push limit at 0.0, the binding term is the first of R114's list whose condition stands: log entry
78, the model's choice. -/
def Obligations.LimitRecomputation : Prop :=
  (∀ (s : State) (g : Trigger) (rest : List Trigger), s.mail.triggers = g :: rest →
      ∃ t, exec .limitRecomputation s = .next t ∧
        t = { s with limits := { s.limits with set := t.limits.set, holdInLost := t.limits.holdInLost }, mail := t.mail } ∧
        t.mail = { s.mail with
          triggers := rest, raises := t.mail.raises, limitAxes := s.mail.limitAxes ++ [t.limits.set]
          limitSeq := s.mail.limitSeq ++ [t.limits.set], limitModel := s.mail.limitModel + 1 } ∧
        (s.kelly.known = false → t.limits.holdInLost = false ∧ t.mail.raises = s.mail.raises ∧
          (s.limits.unseatPhase = false → t.limits.set = LimitSet.unknown) ∧
          (s.limits.unseatPhase = true → ∃ e, t.limits.set.eTorque = some e ∧
            t.limits.set =
              { LimitSet.unknown with torque := t.limits.set.torque, rotationCap := t.limits.set.rotationCap, eTorque := some e }))) ∧
  (let u := LimitSet.unknown;
    (u.push = 0 ∧ u.pull = 0 ∧ u.torque = 0 ∧ u.hoistLine = 0 ∧ u.rotationCap = 0 ∧ u.holdback = none ∧ u.wTotal = none ∧
      u.pushMargin = none ∧ u.pullMargin = none ∧ u.freeLength = none ∧ u.buckling = none ∧ u.ePush = none ∧ u.ePull = none ∧
      u.eTorque = none ∧ u.binding = .unknown ∧ u.toolWeight = none ∧ u.toolFraction = none) ∧
    ∀ k : Fin 5, u.weights[k] = none ∧ u.fractions[k] = none) ∧
  (∀ (s : State) (least : Int) (g : Trigger) (rest : List Trigger), s.mail.triggers = g :: rest → s.kelly.known = false →
    s.limits.unseatPhase = true → Smallest s.profile.count (fun k => fig s.profile.sections[k].torque) least →
    let p := s.profile
    let stop : Prop := ∃ r, s.env.record = some r ∧ r.state = .stop
    ∃ t, exec .limitRecomputation s = .next t ∧
      let w := t.limits.set
      (∀ r, s.env.freshness = .fresh → s.env.record = some r → w.eTorque = some r.torque) ∧
      (s.env.freshness ≠ .fresh ∨ s.env.record = none → w.eTorque = some (fig p.kelly.fallback * fig p.machine.torqueLow / 100)) ∧
      (s.axes.gear = none ∨ stop → w.torque = 0) ∧
      (∀ gear, s.axes.gear = some gear → ¬ stop →
        w.torque = min (min (fig w.eTorque) (fig (if gear = .low then p.machine.torqueLow else p.machine.torqueHigh))) least) ∧
      w.rotationCap = min (2 * ((10 * least + 100) / 200)) w.torque) ∧
  ∀ (s : State) (least : Int) (g : Trigger) (rest : List Trigger), s.mail.triggers = g :: rest → s.kelly.known = true →
    Smallest s.profile.count (fun k => fig s.profile.sections[k].torque) least →
    let p := s.profile
    let stop : Prop := ∃ r, s.env.record = some r ∧ r.state = .stop
    let inDebt : Prop := 2 ≤ s.kelly.debt
    let settles : Prop := s.kelly.seatSettle ≠ none
    ∃ t, exec .limitRecomputation s = .next t ∧
      let w := t.limits.set
      let ceiling := min (min (fig w.pushMargin) (fig w.buckling)) (min (fig w.ePush) (fig p.machine.cMax))
      let held := fig p.kelly.holdIn
      (s.chainEngaged = false → w.push = 0 ∧ w.pull = 0 ∧ w.binding = .chain) ∧
      (s.chainEngaged = true →
        w.pull = min (min (fig w.pullMargin) (fig w.ePull)) (fig p.machine.pMax) ∧
        (stop → w.push = (if settles then min 0 held else 0) ∧ w.binding = .stop) ∧
        (¬ stop → ¬ inDebt → ¬ settles → w.push = ceiling) ∧
        (¬ stop → inDebt → ¬ settles → w.push = ceiling / 2 ∧ w.binding = .debt) ∧
        (¬ stop → ¬ inDebt → settles → w.push = min ceiling held ∧ (held < ceiling → w.binding = .settle)) ∧
        (¬ stop → inDebt → settles → w.push = min (ceiling / 2) held ∧
          (held < ceiling / 2 → w.binding = .settle) ∧ (ceiling / 2 ≤ held → w.binding = .debt)) ∧
        (¬ stop → ¬ inDebt → (¬ settles ∨ ceiling ≤ held) →
          (fig w.pushMargin = ceiling → w.binding = .structural) ∧
          (fig w.pushMargin ≠ ceiling → fig w.buckling = ceiling → w.binding = .buckling) ∧
          (fig w.pushMargin ≠ ceiling → fig w.buckling ≠ ceiling → fig w.ePush = ceiling →
            w.binding = if s.env.freshness = .fresh ∧ s.env.record ≠ none then .envelope else .fallback) ∧
          (fig w.pushMargin ≠ ceiling → fig w.buckling ≠ ceiling → fig w.ePush ≠ ceiling → w.binding = .machine))) ∧
      (s.axes.gear = none ∨ stop → w.torque = 0) ∧
      (∀ gear, s.axes.gear = some gear → ¬ stop →
        w.torque = min (min (fig w.eTorque) (fig (if gear = .low then p.machine.torqueLow else p.machine.torqueHigh))) least) ∧
      w.rotationCap = min (2 * ((10 * least + 100) / 200)) w.torque ∧ w.hoistLine = fig p.machine.wMax ∧
      (s.limits.downforce = none → w.holdback = none) ∧
      (∀ f total, s.limits.downforce = some f → w.wTotal = some total →
        w.holdback = some (max 50 (min w.hoistLine (total - f))))

/-- The terms of a known model: fractions, buoyant weights, W_total, the structural margins, the free length, the buckling term and the
envelope terms, each exact with the rounding its rule names; the pull limit its ceilings give; no push and no torque under a STOP, whose
terms are formed all the same. -/
def Obligations.LimitTermsFormed : Prop :=
  ∀ (s : State) (d : Int), s.toolDepth = some d → ∀ (g : Trigger) (rest : List Trigger), s.mail.triggers = g :: rest →
    s.kelly.known = true → 0 < s.profile.count →
    let p := s.profile
    let rho := s.slurry.density
    let level := s.slurry.level
    let fraction (bottom length : Int) : Int := max 0 (min 1000 ((bottom - level) * 1000 / length))
    let weight (mass volume f : Int) : Int := max 0 ((2 * (981 * (mass * 1000000 - rho * volume * f)) + 10000000000) / 20000000000)
    ∃ t, exec .limitRecomputation s = .next t ∧
      let w := t.limits.set
      (∀ (k : Fin 5) (b : Int), k.val < p.count → s.sectionBottom k = some b →
        w.fractions[k] = some (fraction b (fig p.sections[k].length)) ∧
        w.weights[k] = some (weight (fig p.sections[k].mass) (fig p.sections[k].volume) (fraction b (fig p.sections[k].length)))) ∧
      (∀ k : Fin 5, p.count ≤ k.val → w.fractions[k] = none ∧ w.weights[k] = none) ∧
      w.toolFraction = some (fraction d (fig p.tool.height)) ∧
      w.toolWeight = some (weight (fig p.tool.mass) (fig p.tool.volume) (fraction d (fig p.tool.height))) ∧
      w.wTotal = some (w.cumWeight p.count + fig w.toolWeight) ∧
      (∃ v, Smallest p.count (fun k => fig p.interfaces[k].push - w.cumWeight k.val) v ∧ w.pushMargin = some (max 0 v)) ∧
      (∃ v, Smallest p.count (fun k => fig p.interfaces[k].pull + w.cumWeight k.val) v ∧ w.pullMargin = some v) ∧
      w.freeLength = some (max 1000 (d - fig s.driveDepth)) ∧
      w.buckling = some (fig p.kelly.column * 10000000 / (fig w.freeLength * fig w.freeLength)) ∧
      (∀ r, s.env.freshness = .fresh → s.env.record = some r →
        w.ePush = some (min r.push (fig p.machine.cMax)) ∧ w.ePull = some (min r.pull (fig p.machine.pMax)) ∧
        w.eTorque = some r.torque) ∧
      (s.env.freshness ≠ .fresh ∨ s.env.record = none →
        w.ePush = some (fig p.kelly.fallback * fig p.machine.cMax / 100) ∧
        w.ePull = some (fig p.kelly.fallback * fig p.machine.pMax / 100) ∧
        w.eTorque = some (fig p.kelly.fallback * fig p.machine.torqueLow / 100)) ∧
      (∀ r, s.env.record = some r → r.state = .stop → w.torque = 0 ∧ (0 ≤ fig p.kelly.holdIn → w.push = 0)) ∧
      w.pull = if s.chainEngaged = true then min (min (fig w.pullMargin) (fig w.ePull)) (fig p.machine.pMax) else 0

/-- The HOLD_IN_LOST test at the end of a recomputation, by the table of R119. With the model UNKNOWN the latch becomes CLEAR; a STOP state
with the chain locked gives the push limit 0.0; at either reset the latch is CLEAR. -/
def Obligations.HoldInLostTest : Prop :=
  (∀ (s : State) (g : Trigger) (rest : List Trigger), s.mail.triggers = g :: rest →
    ∃ t, exec .limitRecomputation s = .next t ∧
      let low : Prop := t.limits.set.push < fig s.profile.kelly.holdIn
      let tested : Prop := s.chainEngaged = true ∧ s.kelly.seatSettle = none
      (tested → low → s.limits.holdInLost = false →
        t.mail.raises = s.mail.raises ++ [⟨.holdInLost, s.toolDepth, false⟩] ∧ t.limits.holdInLost = true) ∧
      (tested → low → s.limits.holdInLost = true → t.mail.raises = s.mail.raises ∧ t.limits.holdInLost = true) ∧
      (tested → ¬ low → t.mail.raises = s.mail.raises ∧ t.limits.holdInLost = false) ∧
      (¬ tested → t.mail.raises = s.mail.raises ∧ t.limits.holdInLost = false) ∧
      (s.kelly.known = false → t.limits.holdInLost = false) ∧
      (tested → (∃ r, s.env.record = some r ∧ r.state = .stop) → t.limits.set.push = 0)) ∧
  ∀ s : State, (∃ t, exec .powerOn s = .next t ∧ t.limits.holdInLost = false) ∧
    (s.resetLine = some false → ∃ t, exec (.resetInputChange true) s = .next t ∧ t.limits.holdInLost = false)

/-- The limit set taken by the channels, in a steady state: it becomes theirs, the caps follow, every setpoint comes within its bounds at
once, and a hoist line limit below 5.0 kN ends TENSION. A hoist in TENSION follows the new holdback while a HANGING BORE is in RAMP_UP or
ADVANCE, as does a TENSION request kept under an inhibit, and no other request moves; a BORE's stall condition is tested against the new
torque limit and the setpoint the set leaves. Taken by the sequencer: the crowd request of a LOCKED BORE follows the push limit,
and a short downforce is noted in the record of a HANGING BORE. -/
def Obligations.LimitSetTaken : Prop :=
  ∀ s : State, s.Steady →
    (∀ (w : LimitSet) (rest : List LimitSet), s.mail.limitAxes = w :: rest → ∃ t, exec .limitSetAtChannels s = .next t ∧
      t = { s with axes := t.axes, mail := { s.mail with limitAxes := rest } } ∧ t.axes.limits = w ∧
      (s.axes.rotary.mode = .speed → t.axes.rotary.cap = some w.torque ∧ (w.torque = 0 → t.axes.rotary.setpoint = 0)) ∧
      (s.axes.rotary.mode = .creep → t.axes.rotary.cap = some w.rotationCap ∧ (w.rotationCap = 0 → t.axes.rotary.setpoint = 0)) ∧
      (s.axes.crowd.mode = .force → 0 ≤ w.push → 0 ≤ w.pull →
        let first := (s.kelly.st 0).isEngaged
        t.axes.crowd.setpoint ≤ (if first = true then w.push else min w.push 150) * fine ∧
        -((if first = true then w.pull else min w.pull 150) * fine) ≤ t.axes.crowd.setpoint) ∧
      (s.axes.hoist.mode = .tension → 50 ≤ w.hoistLine → t.axes.hoist.mode = .tension →
        50 * fine ≤ t.axes.hoist.setpoint ∧ t.axes.hoist.setpoint ≤ w.hoistLine * fine) ∧
      (w.hoistLine < 50 → t.axes.hoist.mode ≠ .tension) ∧
      (let clear : Prop := holds s.axes.union .hoistUp = false ∧ holds s.axes.union .hoistDown = false
        let follows (r : Int) : Prop := w.holdback = some r ∧ ∃ x, s.seq.stroke = some x ∧ s.ring[x.index].order.isHanging = true ∧
          (x.phase = .rampUp ∨ x.phase = .advance) ∧ x.closed = false
        (50 ≤ w.hoistLine → s.axes.hoist.mode = .tension → clear → s.axes.keptTension = none → t.axes.hoist.mode = .tension ∧
          t.axes.keptTension = none ∧ (∀ r, follows r → t.axes.hoist.request = max 50 r * fine) ∧
          ((∀ r, ¬ follows r) → t.axes.hoist.request = s.axes.hoist.request)) ∧
        (∀ k, s.axes.keptTension = some k → ¬ clear → s.axes.hoist.mode ≠ .tension → t.axes.hoist.mode = s.axes.hoist.mode ∧
          (∀ r, follows r → t.axes.keptTension = some r) ∧ ((∀ r, ¬ follows r) → t.axes.keptTension = some k)) ∧
        t.axes.crowd.request = s.axes.crowd.request ∧ t.axes.rotary.request = s.axes.rotary.request) ∧
      let stalls : Prop := (∃ x, s.seq.stroke = some x ∧ x.boring = true) ∧ 0 < t.axes.rotary.setpoint ∧
        ∃ q v, s.kelly.torque = some q ∧ s.kelly.speed = some v ∧ 95 * w.torque ≤ 100 * magnitude q ∧ magnitude v < 10
      (stalls → t.axes.stallTimer = some (s.axes.stallTimer.getD 1500)) ∧ (¬ stalls → t.axes.stallTimer = none)) ∧
    (∀ (w : LimitSet) (rest : List LimitSet), s.mail.limitSeq = w :: rest →
      let taken : Mail := { s.mail with limitSeq := rest }
      (s.seq.stroke = none → exec .limitSetAtSequencer s = .next { s with mail := taken }) ∧
      (∀ x, s.seq.stroke = some x → s.ring[x.index].order.kind = .bore →
        let order := s.ring[x.index].order
        ∃ t, exec .limitSetAtSequencer s = .next t ∧ t = { s with axes := t.axes, seq := t.seq, mail := taken } ∧
          (∃ y, t.seq.stroke = some y ∧
            y = { x with figures := { x.figures with downforceShort := y.figures.downforceShort } } ∧
            (∀ f total r, s.limits.downforce = some f → w.wTotal = some total → w.holdback = some r →
              (x.phase = .rampUp ∨ x.phase = .advance) →
              (y.figures.downforceShort = true ↔ x.figures.downforceShort = true ∨ total - r < f))) ∧
          (order.boreMode = some .locked → x.closed = false → x.met = false → s.axes.governor = .free →
            (x.phase = .advance → t.axes.crowd.request = min (fig order.push) w.push * fine) ∧
            (x.phase = .rampUp → t.axes.crowd.request = min (fig s.profile.kelly.holdIn) w.push * fine))))

/-- The channels, in a steady state. The valve demand is the setpoint over the channel maximum of the mode, times 1000, rounded toward zero; a
BRAKED channel and a rotary without a gear have demand 0. At a load sample a rotary, and a crowd in POSITION, whose load against its
motion is at or above the cap has its demand reduced by cap over load, rounded toward zero. A fresh envelope frame with state RESTRICTED
halves the speed ceilings of the hoist in SPEED, the crowd in POSITION and the rotary, and clamps each setpoint at once; the requests
stay. -/
def Obligations.DemandsCapsCeilings : Prop :=
  (∀ (s : State) (u : Mask) (rest : List Mask), s.Steady → s.mail.unionAxes = u :: rest → ∃ t, exec .unionAtChannels s = .next t ∧ ∀ a,
    let c := t.axes.get a
    let m := s.profile.machine
    let fills (full : Int) : Prop := 0 < full → c.overload = none → c.demand = Int.tdiv (c.setpoint * 1000) (full * fine)
    (c.mode = .braked → c.demand = 0) ∧
    (a = .hoist → c.mode = .speed → fills (fig m.winchMax)) ∧ (a = .hoist → c.mode = .tension → fills (fig m.wMax)) ∧
    (a = .crowd → c.mode = .force → 0 ≤ c.setpoint → fills (fig m.cMax)) ∧ (a = .crowd → c.mode = .force → c.setpoint < 0 → fills (fig m.pMax)) ∧
    (a = .crowd → c.mode = .position → fills 1000) ∧
    (a = .rotary → c.mode = .speed ∨ c.mode = .creep →
      (s.axes.gear = none → c.demand = 0) ∧ (s.axes.gear = some .low → fills (fig m.speedLow)) ∧
      (s.axes.gear = some .high → fills (fig m.speedHigh)))) ∧
  (∀ (s : State), s.Steady →
    let reduced (c d : Channel) (cap against full : Int) : Prop :=
      let load := if 0 < c.setpoint then against else if c.setpoint < 0 then -against else 0
      let base := Int.tdiv (d.setpoint * 1000) (full * fine)
      (0 < load → cap ≤ load → d.demand = Int.tdiv (base * cap) load) ∧ (load ≤ 0 ∨ load < cap → d.demand = base)
    (∀ (p : RotaryPort) (v : Int), 0 ≤ v → v ≤ 4500 → s.axes.rotary.mode = .speed ∨ s.axes.rotary.mode = .creep → 0 < s.rotaryMax →
      let cap := if s.axes.rotary.mode = .speed then s.axes.limits.torque else s.axes.limits.rotationCap
      s.axes.rotary.cap = some cap → ∃ t, exec (.rotaryPressureSample p v) s = .next t ∧
        t.axes.rotary.mode = s.axes.rotary.mode ∧ t.axes.rotary.request = s.axes.rotary.request ∧
        ∀ q, t.kelly.torque = some q → reduced s.axes.rotary t.axes.rotary cap q s.rotaryMax) ∧
    (∀ (p : CrowdPort) (v : Int), 0 ≤ v → v ≤ 4500 → s.axes.crowd.mode = .position → s.axes.crowd.cap = some 150 →
      ∃ t, exec (.crowdPressureSample p v) s = .next t ∧ t.axes.crowd.mode = .position ∧ t.axes.crowd.request = s.axes.crowd.request ∧
        ∀ f, t.kelly.crowdForce = some f → reduced s.axes.crowd t.axes.crowd 150 f 1000)) ∧
  ∀ (s : State) (n st p1 p0 u1 u0 t1 t0 : Byte) (x : Stability), (s.links.get .stability).up = true →
    [Stability.normal, .restricted, .stop][st.toNat]? = some x → (∀ r, s.env.record = some r → r.sequence ≠ n.toNat) →
    s.axes.keptTension = none →
    let half (full : Int) : Int := if x = .restricted then full * fine / 2 else full * fine
    let off (d : Direction) : Prop := holds s.axes.union d = false
    ∃ t, exec (.envelopeFrame .stability ⟨0x2C4, [n, st, p1, p0, u1, u0, t1, t0]⟩) s = .next t ∧
      let held (a : Axis) (full : Int) : Prop := (t.axes.get a).request = (s.axes.get a).request ∧
        (t.axes.get a).setpoint = max (-(half full)) (min (half full) (s.axes.get a).setpoint)
      (s.axes.hoist.mode = .speed → off .hoistUp → off .hoistDown → held .hoist (fig s.profile.machine.winchMax)) ∧
      (s.axes.crowd.mode = .position → off .crowdUp → off .crowdDown → held .crowd 1000) ∧
      (∀ g, s.axes.gear = some g → off .rotateCcw → off .rotateCw →
        (s.axes.rotary.mode = .speed ∧ s.axes.limits.torque ≠ 0) ∨ (s.axes.rotary.mode = .creep ∧ s.axes.limits.rotationCap ≠ 0) →
        held .rotary (s.profile.rotaryMax g))

/-- The union taken by the channels, in a steady state: a side whose direction it holds stands at 0 at once, and a hoist in TENSION under
either hoist direction leaves it for SPEED at zero, keeping its request; with both clear it returns to TENSION at that request, its setpoint
starting at the latest rope tension within its bounds. Taken by the sequencer: a stroke whose own direction has entered is marked inhibited.
A mask holds direction d of the list of R146 exactly when its bit d − 1 is set, row by row. -/
def Obligations.UnionTaken : Prop :=
  (∀ d : Direction, ∃ n, (d, n) ∈ directionNumbers) ∧
  (∀ p ∈ directionNumbers, ∀ m : Mask, holds m p.1 = m.getLsbD (p.2 - 1)) ∧
  ∀ s : State,
    (∀ (u : Mask) (rest : List Mask), s.mail.unionAxes = u :: rest → s.Steady → ∃ t, exec .unionAtChannels s = .next t ∧
      t = { s with axes := t.axes, mail := { s.mail with unionAxes := rest } } ∧ t.axes.union = u ∧
      (u &&& 1 ≠ 0 → 0 ≤ s.axes.limits.pull → t.axes.crowd.setpoint ≤ 0) ∧
      (u &&& 2 ≠ 0 → 0 ≤ t.axes.crowd.setpoint) ∧
      (u &&& 4 ≠ 0 → 0 ≤ s.rotaryMax → t.axes.rotary.setpoint ≤ 0) ∧
      (u &&& 8 ≠ 0 → 0 ≤ t.axes.rotary.setpoint) ∧
      (u &&& 16 ≠ 0 → 0 ≤ t.axes.hoist.setpoint) ∧
      (u &&& 32 ≠ 0 → 0 ≤ fig s.profile.machine.winchMax → t.axes.hoist.setpoint ≤ 0) ∧
      (u &&& 48 ≠ 0 → 0 ≤ fig s.profile.machine.winchMax → s.axes.hoist.mode = .tension → s.axes.keptTension = none → 50 ≤ s.axes.limits.hoistLine →
        t.axes.hoist.mode = .speed ∧ t.axes.hoist.setpoint = 0 ∧ t.axes.keptTension = some (s.axes.hoist.request / fine)) ∧
      ∀ r, s.axes.keptTension = some r → s.axes.hoist.mode ≠ .tension →
        (u &&& 48 ≠ 0 → t.axes.keptTension = some r ∧ t.axes.hoist.mode = s.axes.hoist.mode) ∧
        (u &&& 48 = 0 → 50 ≤ s.axes.limits.hoistLine → t.axes.keptTension = none ∧ t.axes.hoist.mode = .tension ∧
          t.axes.hoist.request = max 50 r * fine ∧ t.axes.hoist.brakeApplied = false ∧
          ∀ x, s.kelly.tension = some x → t.axes.hoist.setpoint = max 50 (min s.axes.limits.hoistLine x) * fine)) ∧
    (∀ (u : Mask) (rest : List Mask), s.mail.unionSeq = u :: rest →
      let taken : Mail := { s.mail with unionSeq := rest }
      (s.seq.stroke = none → exec .unionAtSequencer s = .next { s with mail := taken }) ∧
      ∀ x, s.seq.stroke = some x →
        (∀ d, s.ring[x.index].order.ownDirection = some d → holds u d = true →
          exec .unionAtSequencer s = .next { s with mail := taken, seq := { s.seq with stroke := some { x with inhibited := true } } }) ∧
        ((∀ d, s.ring[x.index].order.ownDirection = some d → holds u d = false) →
          exec .unionAtSequencer s = .next { s with mail := taken }))

/-- The change of the unit mode, as each block takes it: the sequencer completes a stroke the new mode does not permit, with ABORTED and MODE
if its outcome was open; the envelope receiver raises ENVELOPE_LOST under its latch; supervision starts or stops clean (that it stops clean
is log entry 49, the model's choice); the fault
controller sets its lines. LOCKOUT taken by the mode controller makes the mode LOCKOUT, and the channel orders that still wait take effect
with it, so that a waiting CUT leaves every setpoint at zero (log entry 37); in CONFIG the mode stays (log entry 38). That the pilot cut
is asserted in the controller's LOCKOUT before the mode follows is log entry 15, and that the lines follow the mode as it now stands where a
later change still waits is log entry 69 (DESIGN CHOICE). -/
def Obligations.ModeChangesTaken : Prop :=
  ∀ s : State,
    (∀ (c : ModeChange) (rest : List ModeChange), s.mail.modeSeq = c :: rest →
      let taken : Mail := { s.mail with modeSeq := rest }
      (s.seq.stroke = none → exec .modeChangeAtSequencer s = .next { s with mail := taken }) ∧
      ∀ x, s.seq.stroke = some x →
        let order := s.ring[x.index].order
        (Permitted c.new order.kind → exec .modeChangeAtSequencer s = .next { s with mail := taken }) ∧
        (¬ Permitted c.new order.kind → ∃ t, exec .modeChangeAtSequencer s = .next t ∧
          t.ring = s.ring.set x.index ⟨.console, order, some
            { outcome := x.outcome.getD .aborted
              reason := if x.outcome = none then some (x.reason.getD .mode) else x.reason
              figures := some { x.figures with endDepth := s.toolDepth } }⟩ ∧
          t.seq = ⟨if x.endState = .running then .held else x.endState.seqState, x.index + 1, none⟩)) ∧
    (∀ (c : ModeChange) (rest : List ModeChange), s.mail.modeEnv = c :: rest →
      let taken : Mail := { s.mail with modeEnv := rest }
      let lost : Prop := s.env.freshness = .lost ∧ (c.new = .operating ∨ c.new = .surveyRequired) ∧ s.env.lossLatch = false
      (lost → exec .modeChangeAtEnvelope s = .next { s with
        env := { s.env with lossLatch := true }
        mail := { taken with raises := s.mail.raises ++ [⟨.envelopeLost, s.toolDepth, false⟩] } }) ∧
      (¬ lost → exec .modeChangeAtEnvelope s = .next { s with mail := taken })) ∧
    (∀ (c : ModeChange) (rest : List ModeChange), s.mail.modeSup = c :: rest →
      let taken : Mail := { s.mail with modeSup := rest }
      let clean (on : Bool) : Prop := ∃ t, exec .modeChangeAtSupervision s = .next t ∧
        t = { s with axes := t.axes, sup := ⟨on, Vector.replicate 12 ⟨some 50, false⟩⟩, mail := taken }
      (c.old = .config → clean true) ∧ (c.old ≠ .config → c.new = .config → clean false) ∧
      (c.old ≠ .config → c.new ≠ .config → exec .modeChangeAtSupervision s = .next { s with mail := taken })) ∧
    (∀ (c : ModeChange) (rest : List ModeChange), s.mail.modeLines = c :: rest → ∃ t, exec .modeChangeAtLines s = .next t ∧
      t = { s with
        faults := { s.faults with pilotCut := t.faults.pilotCut, lockoutLine := t.faults.lockoutLine }
        mail := { s.mail with modeLines := rest } } ∧
      (t.faults.pilotCut = true ↔ s.ctl.mode = .config ∨ s.ctl.mode = .lockout ∨ s.faults.state = .cut ∨ s.faults.state = .lockout) ∧
      (t.faults.lockoutLine = true ↔ s.faults.state = .lockout)) ∧
    (∀ n : Nat, s.mail.lockout = n + 1 →
      let taken : Mail := { s.mail with lockout := n }
      let stopped (t : State) : Prop := s.mail.orders.getLast? = some .cut → t.axes.governor = .cut ∧
        ∀ x, (t.axes.get x).mode = .braked ∧ (t.axes.get x).setpoint = 0 ∧ (t.axes.get x).demand = 0
      (s.ctl.mode = .lockout ∨ s.ctl.mode = .config → ∃ t, exec .lockoutAtModeController s = .next t ∧ stopped t ∧
        t = { s with axes := t.axes, mail := { taken with orders := [] } } ∧ (s.mail.orders = [] → t.axes = s.axes)) ∧
      (s.ctl.mode ≠ .lockout → s.ctl.mode ≠ .config →
        let m : ModeChange := ⟨s.ctl.mode, .lockout⟩
        ∃ t, exec .lockoutAtModeController s = .next t ∧ stopped t ∧
          (s.mail.orders = [] → s.ctl.mode ≠ .parked → t.axes = s.axes) ∧
          t = { s with
            axes := t.axes, ctl := t.ctl, links := s.links.map fun k => k.setFlags 256
            mail := { taken with
              orders := []
              modeSeq := s.mail.modeSeq ++ [m], modeEnv := s.mail.modeEnv ++ [m], modeSup := s.mail.modeSup ++ [m]
              modeLines := s.mail.modeLines ++ [m] } } ∧
          t.ctl.mode = .lockout ∧ (s.ctl.mode = .parked → t.ctl = ⟨.lockout, none, .idle, false⟩) ∧
          (s.ctl.mode ≠ .parked → t.ctl = { s.ctl with mode := .lockout })))

/-! ### Faults and reactions -/

/-- A raise taken while the controller is CLEAR: the last fault and the FAULT flags follow the resolved class; an ANNOUNCE, and any raise in
CONFIG, does no more; a HOLD, HALT or CUT writes the context afresh and enters service, handing its order to the channels and its reaction
to the sequencer, with the pilot cut for CUT. A raise taken outside CLEAR and CONFIG escalates: REACTING to COMPOUND (or to CUT for a
CUT), COMPOUND to LOCKOUT with the lockout record; a COMPOUND left alone completes at rest; in CUT and LOCKOUT a raise is counted. An
ANNOUNCE changes neither state nor context before CUT. On entry into LOCKOUT the context keeps its service vector and class (log entry 18,
DEDUCED). In CONFIG a raise is announced whatever the class and the state, and in CUT it is counted too. An entry into service interrupts a
rotation that turns or creeps back and a re-seat check not yet confirmed; a confirmed one, and any other raise, interrupts nothing. That the
interruption falls on the entry into service, not on the taking of its order by the channels, is log entry 54 (DESIGN CHOICE). -/
def Obligations.RaiseTaken : Prop :=
  (∀ (s : State) (r : Raise) (rest : List Raise), s.mail.raises = r :: rest → s.Steady → s.faults.state = .clear →
      ∀ vec cls notify, s.faults.Resolves r.vector vec cls notify →
        let last : Faults := { s.faults with lastFault := some ⟨r.vector, cls, r.depth⟩ }
        let links := (s.setFlagsOn notify 1).links
        (cls = .announce ∨ s.ctl.mode = .config → exec (.faultRaise r.vector) s =
          .next { s with faults := last, links := links, mail := { s.mail with raises := rest } }) ∧
        (cls ≠ .announce → s.ctl.mode ≠ .config → exec (.faultRaise r.vector) s = .next { s with
          links := links
          faults := { last with
            state := if cls = .cut then .cut else .reacting
            pilotCut := decide (s.ctl.mode = .lockout ∨ cls = .cut), lockoutLine := false
            context := some {
              serviceVector := vec, serviceClass := cls, firstVector := vec, firstRaised := r.vector, firstClass := cls
              secondVector := none, secondRaised := none, thirdVector := none, laterCount := 0, lastLater := none
              ringIndex := s.seq.stroke.map (·.index), phase := s.seq.stroke.map (·.phase), depth := r.depth
              crowdForce := s.kelly.crowdForce, torque := s.kelly.torque, tension := s.kelly.tension } }
          mail := { s.mail with
            raises := rest
            orders := s.mail.orders ++ [if cls = .hold then .normalStop else if cls = .halt then .fastStop else .cut]
            reactions := s.mail.reactions ++ [if cls = .hold then .hold vec else .stop vec] } })) ∧
  (∀ (s : State) (r : Raise) (rest : List Raise), s.mail.raises = r :: rest → s.Steady → s.ctl.mode = .config →
    ∀ vec cls notify, s.faults.Resolves r.vector vec cls notify →
      let announced : State := { s with
        faults := { s.faults with lastFault := some ⟨r.vector, cls, r.depth⟩ }, links := (s.setFlagsOn notify 1).links
        mail := { s.mail with raises := rest } }
      (s.faults.state = .clear ∨ s.faults.state = .reacting ∨ s.faults.state = .compound →
        exec (.faultRaise r.vector) s = .next announced) ∧
      ∀ c, s.faults.context = some c → s.faults.state = .cut → exec (.faultRaise r.vector) s = .next { announced with
        faults := { announced.faults with
          context := some { c with laterCount := min 255 (c.laterCount + 1), lastLater := some r.vector } } }) ∧
  (∀ (s : State) (r : Raise) (rest : List Raise), s.mail.raises = r :: rest →
    (∀ x, s.seq.stroke = some x → x.closed = true ∨ x.met = true ∨ x.phase ∈ [Phase.seating, .unseating, .creepBack]) →
    s.faults.state = .clear ∨ s.faults.state = .reacting ∨ s.faults.state = .compound →
    ∀ vec cls notify, s.faults.Resolves r.vector vec cls notify →
      let enters : Prop := cls ≠ .announce ∧ s.ctl.mode ≠ .config
      (∀ ro, s.kelly.rotation = some ro → ro.stage ≠ .resting → s.ctl.reseat = .idle → ∃ t, exec (.faultRaise r.vector) s = .next t ∧
        t.ctl = s.ctl ∧ (enters → t.kelly = { s.kelly with rotation := some { ro with interrupted := true } }) ∧
        (¬ enters → ro.interrupted = false → t.kelly = s.kelly)) ∧
      (∀ ro, s.kelly.rotation = some ro → ro.stage = .resting → s.ctl.reseat = .idle → s.axes.rotary.atRest = false →
        ∃ t, exec (.faultRaise r.vector) s = .next t ∧ t.ctl = s.ctl ∧ t.kelly = s.kelly) ∧
      ∀ v confirmed i, s.ctl.reseat = .checking v confirmed i → s.kelly.rotation = none → s.axes.rotary.atRest = false →
        ∃ t, exec (.faultRaise r.vector) s = .next t ∧ t.kelly = s.kelly ∧
          (enters → confirmed = false → t.ctl = { s.ctl with reseat := .checking v false true }) ∧
          (¬ enters ∨ confirmed = true → t.ctl = s.ctl)) ∧
  ∀ (s : State) (r : Raise) (rest : List Raise), s.mail.raises = r :: rest → s.Steady → s.ctl.mode ≠ .config →
    ∀ c, s.faults.context = some c → ∀ vec cls notify, s.faults.Resolves r.vector vec cls notify →
      let last : Faults := { s.faults with lastFault := some ⟨r.vector, cls, r.depth⟩ }
      let flagged := s.setFlagsOn notify 1
      let taken : Mail := { s.mail with raises := rest }
      let command : Instr := .faultRaise r.vector
      (s.faults.state = .reacting ∨ s.faults.state = .compound → cls = .announce →
        exec command s = .next { s with faults := last, links := flagged.links, mail := taken }) ∧
      (s.faults.state = .reacting → cls = .hold ∨ cls = .halt → exec command s = .next { s with
        links := flagged.links.map fun k => k.setFlags 1
        faults := { last with
          state := .compound, pilotCut := decide (s.ctl.mode = .lockout), lockoutLine := false
          context := some { c with
            serviceVector := .compound, serviceClass := .halt, secondVector := some vec, secondRaised := some r.vector } }
        mail := { taken with orders := s.mail.orders ++ [.fastStop], reactions := s.mail.reactions ++ [.stop .compound] } }) ∧
      (s.faults.state = .reacting → cls = .cut → exec command s = .next { s with
        links := flagged.links
        faults := { last with
          state := .cut, pilotCut := true, lockoutLine := false
          context := some { c with
            serviceVector := vec, serviceClass := .cut, secondVector := some vec, secondRaised := some r.vector } }
        mail := { taken with orders := s.mail.orders ++ [.cut], reactions := s.mail.reactions ++ [.stop vec] } }) ∧
      (s.faults.state = .compound → cls ≠ .announce → exec command s = .next { s with
        links := flagged.links.map fun k => k.setFlags 2048
        faults := { last with
          state := .lockout, pilotCut := true, lockoutLine := true
          context := some { c with thirdVector := some r.vector }
          lockoutRecord := some ⟨c.firstRaised, c.secondRaised, r.vector, r.depth.or c.depth⟩ }
        mail := { taken with orders := s.mail.orders ++ [.cut], lockout := s.mail.lockout + 1 } }) ∧
      (s.faults.state = .compound → (∀ x, (s.axes.get x).atRest = true ∧ (s.axes.get x).setpoint = 0) →
        (∀ r' ∈ s.mail.raises, r'.decision = false) → ∃ t, exec .reactionCompletion s = .next t ∧ t.faults.state = .clear) ∧
      (s.faults.state = .cut ∨ s.faults.state = .lockout → exec command s = .next { s with
        links := flagged.links, mail := taken
        faults := { last with context := some { c with laterCount := min 255 (c.laterCount + 1), lastLater := some r.vector } } })

/-- A reaction at the sequencer: it meets the stroke in flight, deciding an open outcome, filling an absent reason and raising the end state,
and lets no further phase begin; with no stroke in flight it changes the state by the table of R77. A reaction in REACTING or COMPOUND
completes when every axis is at rest, every setpoint is zero, and no interrupted rotation awaits its decision: CLEAR, the lines,
REACTION_END on the links of the service vector, and the report of the end to the channels. Otherwise it goes on. A rotation that still turns
or creeps back at the meeting is interrupted there; that one begun after the entry into service counts as interrupted from the meeting on is
log entry 54, the model's choice. -/
def Obligations.ReactionMetAndEnded : Prop :=
  (∀ (s : State) (m : ReactionMsg) (rest : List ReactionMsg), s.mail.reactions = m :: rest → s.Steady →
      let taken : Mail := { s.mail with reactions := rest }
      let become (q : SeqState) : State := if s.seq.state = q then { s with mail := taken }
        else { s with mail := taken, seq := { s.seq with state := q }, links := s.links.map fun k => k.setFlags 8 }
      (∀ v, m = .hold v → s.seq.stroke = none →
        exec .reactionAtSequencer s = .next (if s.seq.state = .suspended then become .held else { s with mail := taken })) ∧
      (∀ v, m = .stop v → s.seq.stroke = none → exec .reactionAtSequencer s =
        .next (if s.seq.state = .suspended ∨ s.seq.state = .held then become .faulted else { s with mail := taken })) ∧
      ∀ x, s.seq.stroke = some x → ∃ t, exec .reactionAtSequencer s = .next t ∧
        t = { s with seq := { s.seq with stroke := t.seq.stroke }, axes := t.axes, mail := taken } ∧
        ∃ y, t.seq.stroke = some y ∧ y.index = x.index ∧ y.phase = x.phase ∧ y.figures = x.figures ∧ y.closed = true ∧ y.met = true ∧
          (∀ v, m = .hold v → y.outcome = some (x.outcome.getD .heldByFault) ∧ y.reason = some (x.reason.getD (.fault v)) ∧
            y.endState = if x.endState = .running then .held else x.endState) ∧
          (∀ v, m = .stop v → y.outcome = some (x.outcome.getD .faulted) ∧ y.reason = some (x.reason.getD (.fault v)) ∧
            y.endState = .faulted)) ∧
  (∀ (s : State) (m : ReactionMsg) (rest : List ReactionMsg) (x : Stroke) (ro : Rotation), s.mail.reactions = m :: rest →
    s.seq.stroke = some x → s.kelly.rotation = some ro → s.ctl.reseat = .idle → s.axes.relief = none → s.axes.rotary.atRest = false →
    s.sup.inFault .rotarySpeed = false →
    ∃ t, exec .reactionAtSequencer s = .next t ∧ (∃ y, t.seq.stroke = some y ∧ y.closed = true ∧ y.met = true ∧ y.phase = x.phase) ∧
      (ro.stage ≠ .resting → t.kelly = { s.kelly with rotation := some { ro with interrupted := true } }) ∧
      (ro.stage = .resting → t.kelly = s.kelly)) ∧
  ∀ s : State,
    let serving : Prop := s.faults.state = .reacting ∨ s.faults.state = .compound
    let still : Prop := ∀ x, (s.axes.get x).atRest = true ∧ (s.axes.get x).setpoint = 0
    let open_ : Prop := (∃ r, s.kelly.rotation = some r ∧ r.interrupted = true ∧ r.stage ≠ .resting) ∨
      ∃ r ∈ s.mail.raises, r.decision = true
    (¬ serving ∨ ¬ still ∨ open_ → exec .reactionCompletion s = .next s) ∧
    ∀ c, s.faults.context = some c → serving → still → ¬ open_ →
      exec .reactionCompletion s = .next { s with
        faults := { s.faults with
          state := .clear, pilotCut := decide (s.ctl.mode = .config ∨ s.ctl.mode = .lockout), lockoutLine := false }
        links := (s.setFlagsOn (s.faults.notifyOf c.serviceVector) 2).links
        mail := { s.mail with orders := s.mail.orders ++ [.ended] } }

/-- The channels take the fault controller's orders, oldest first, in a steady state: a normal stop under FREE or NORMAL, a fast stop except
under CUT, a cut at once, the end of a reaction. A command that is not the oldest order does nothing. That one event acts on all three
channels, by the oldest order, is log entry 31; the rounded-up fall of a fast stop is log entry 7; that a command which is not the oldest
order does nothing is log entry 4. -/
def Obligations.ChannelsTakeOrders : Prop :=
  ∀ (s : State) (o : ChannelOrder) (rest : List ChannelOrder), s.mail.orders = o :: rest → s.Steady →
    let taken : Mail := { s.mail with orders := rest }
    let gov := s.axes.governor
    let zeroed (t : State) : Prop := t = { s with axes := t.axes, mail := taken } ∧ t.axes.keptTension = none ∧
      t.axes.sledGoal = none ∧ t.axes.hoist.mode ≠ .tension ∧ ∀ x, (t.axes.get x).request = 0
    (o ≠ .normalStop → exec .normalStop s = .next s) ∧ (o ≠ .fastStop → exec .fastStop s = .next s) ∧
    (o ≠ .cut → exec .cut s = .next s) ∧ (o ≠ .ended → exec .reactionEndedAtChannels s = .next s) ∧
    (o = .normalStop → gov = .fast ∨ gov = .cut → exec .normalStop s = .next { s with mail := taken }) ∧
    (o = .normalStop → gov = .free ∨ gov = .normal → ∃ t, exec .normalStop s = .next t ∧ zeroed t ∧ t.axes.governor = .normal) ∧
    (o = .fastStop → gov = .cut → exec .fastStop s = .next { s with mail := taken }) ∧
    (o = .fastStop → gov ≠ .cut → ∃ t, exec .fastStop s = .next t ∧ zeroed t ∧ t.axes.governor = .fast ∧
      (s.axes.hoist.mode = .tension → 0 ≤ fig s.profile.machine.winchMax →
        t.axes.hoist.mode = .speed ∧ t.axes.hoist.setpoint = 0) ∧
      (∀ x, (s.axes.get x).mode ≠ .tension → (t.axes.get x).fastRate = (magnitude (s.axes.get x).setpoint + 299) / 300)) ∧
    (o = .cut → ∃ t, exec .cut s = .next t ∧ zeroed t ∧ t.axes.governor = .cut ∧ ∀ x, (t.axes.get x).mode = .braked ∧
      (t.axes.get x).setpoint = 0 ∧ (t.axes.get x).demand = 0 ∧ (t.axes.get x).brakeApplied = true ∧ (t.axes.get x).brake = none) ∧
    (o = .ended → ∃ t, exec .reactionEndedAtChannels s = .next t ∧ t = { s with axes := t.axes, mail := taken } ∧
      t.axes.governor = .free ∧
      (s.ctl.latchRequest = true → s.ctl.mode = .parked →
        t.axes.crowd.mode = .force ∧ t.axes.crowd.request = fig s.profile.kelly.holdIn * fine) ∧
      (s.ctl.latchRequest = false → t.axes.crowd.mode = s.axes.crowd.mode ∧ t.axes.crowd.request = s.axes.crowd.request ∧
        t.axes.rotary.mode = s.axes.rotary.mode ∧ t.axes.rotary.request = s.axes.rotary.request))

/-! ### Timers -/

/-- The channels' own events: the rotary at its request ends RAMP_UP and begins ADVANCE; a brake timer run out brakes its channel; a stall is
not counted under a torque limit of 0.0, makes a relief turn the first two times and ends the motion the third; a full no-advance window
raises NO_ADVANCE and restarts. That a report, a timer or a window that is not due changes nothing is log entry 4; that a stall timer run out is
reported also with the setpoint no longer clockwise is log entry 53, the model's choice. -/
def Obligations.ChannelTimers : Prop :=
  ∀ s : State,
    (∀ a, (s.axes.get a).reached = false → exec (.setpointReachesRequest a) s = .next s) ∧
    (∀ a, (s.axes.get a).reached = true → s.Steady → a ≠ .rotary ∨ (∀ x, s.seq.stroke = some x → x.phase ≠ .rampUp) →
      exec (.setpointReachesRequest a) s = .next { s with axes := s.axes.modify a fun c => { c with reached := false } }) ∧
    (∀ x, s.seq.stroke = some x → s.axes.rotary.reached = true → x.inMotion = true → x.phase = .rampUp → x.inhibited = false →
      0 < s.axes.rotary.setpoint → s.axes.rotary.setpoint = s.goal .rotary → s.Steady →
      ∃ t, exec (.setpointReachesRequest .rotary) s = .next t ∧
        t = { s with axes := t.axes, seq := { s.seq with stroke := some { x with phase := .advance } } } ∧
        t.axes.window = some ⟨s.toolDepth, 0⟩ ∧
        (s.ring[x.index].order.isLocked = true → s.axes.governor = .free →
          t.axes.crowd.request = min (fig s.ring[x.index].order.push) s.limits.set.push * fine)) ∧
    (∀ a, (s.axes.get a).brake ≠ some 0 → exec (.brakeTimerExpiry a) s = .next s) ∧
    (∀ a, (s.axes.get a).brake = some 0 → s.Steady → s.axes.keptTension = none →
      ∃ t, exec (.brakeTimerExpiry a) s = .next t ∧ t = { s with axes := t.axes } ∧ (t.axes.get a).mode = .braked ∧
        (t.axes.get a).brakeApplied = true ∧ (t.axes.get a).demand = 0 ∧ (t.axes.get a).brake = none) ∧
    (s.axes.stallTimer ≠ some 0 → exec .stallTimerExpiry s = .next s) ∧
    (∀ x, s.seq.stroke = some x → s.axes.stallTimer = some 0 → x.boring = true → x.inhibited = false → s.Steady →
      (s.limits.set.torque = 0 → ∃ t, exec .stallTimerExpiry s = .next t ∧ t = { s with axes := t.axes } ∧ t.axes.relief = none) ∧
      (s.limits.set.torque ≠ 0 → x.figures.stallCount < 2 → ∃ t, exec .stallTimerExpiry s = .next t ∧
        t = { s with axes := t.axes, seq := { s.seq with stroke := some { x with
          figures := { x.figures with stallCount := x.figures.stallCount + 1 } } } } ∧ t.axes.stallTimer = none ∧
        (s.axes.rotary.atRest = false → s.sup.inFault .rotarySpeed = false → t.axes.relief = some ⟨.stopping, none⟩ ∧
          (s.axes.governor = .free → t.axes.rotary.request = 0))) ∧
      (s.limits.set.torque ≠ 0 → 2 ≤ x.figures.stallCount → ∃ t, exec .stallTimerExpiry s = .next t ∧
        t.mail = { s.mail with triggers := t.mail.triggers, raises := s.mail.raises ++ [⟨.boreStall, s.toolDepth, false⟩] } ∧
        t.axes.relief = none ∧ t.ring = s.ring ∧
        ∃ y, t.seq.stroke = some y ∧ y.outcome = some .faulted ∧ y.reason = some (x.reason.getD (.fault .boreStall)) ∧
          y.endState = .faulted ∧ y.figures = { x.figures with stallCount := x.figures.stallCount + 1 })) ∧
    (∀ w, s.axes.window = some w →
      (w.time < 120000 → exec .noAdvanceWindowExpiry s = .next s) ∧
      (120000 ≤ w.time → exec .noAdvanceWindowExpiry s = .next { s with
        axes := { s.axes with window := some ⟨s.toolDepth, 0⟩ }
        mail := { s.mail with raises := s.mail.raises ++ [⟨.noAdvance, s.toolDepth, false⟩] } }))

/-- The model's timers: the seat settle time, whose end starts a recomputation; the release settle time, at whose end a waiting ENGAGE makes
its checks, is refused by the first that fails, or begins its seating rotation; the release dwell, at whose end an auto-release begins its
unseating rotation on the bottom and fails off it. That a timer that is not due changes nothing is log entry 4; that an inhibited ENGAGE
whose check fails is refused with that check's reason is log entry 40; that an inhibited BORE fails off the bottom before its boundary is log
entry 50. Both are the model's choice. -/
def Obligations.ModelTimers : Prop :=
  ∀ s : State,
    (s.kelly.seatSettle = some 0 → exec .seatSettleExpiry s = .next { s with
      kelly := { s.kelly with seatSettle := none }, mail := { s.mail with triggers := s.mail.triggers ++ [.settle] } }) ∧
    (s.kelly.seatSettle ≠ some 0 → exec .seatSettleExpiry s = .next s) ∧
    (s.kelly.releaseSettle ≠ some 0 → exec .releaseSettleExpiry s = .next s) ∧
    (s.kelly.releaseSettle = some 0 → (∀ x, s.seq.stroke = some x → x.phase ≠ .settleWait) →
      exec .releaseSettleExpiry s = .next { s with kelly := { s.kelly with releaseSettle := none } }) ∧
    (∀ x, s.seq.stroke = some x → s.kelly.releaseSettle = some 0 → x.phase = .settleWait → x.closed = false → x.met = false →
      x.outcome = none → x.endState = .running →
      let order := s.ring[x.index].order
      let refused (r : Reason) : Prop := ∃ t, exec .releaseSettleExpiry s = .next t ∧
        t.ring = s.ring.set x.index ⟨.console, order, some
          ⟨.refused, some (x.reason.getD r), some { x.figures with endDepth := x.figures.startDepth }⟩⟩ ∧
        t.seq = ⟨.held, x.index + 1, none⟩
      (s.kelly.known = false → refused .modelUnknown) ∧
      (s.kelly.known = true → s.kelly.tob = false → refused .notOnBottom) ∧
      (s.kelly.known = true → s.kelly.tob = true → s.planAligned order = false → refused .notAligned) ∧
      (s.kelly.known = true → s.kelly.tob = true → s.planAligned order = true → s.planOnly order = false → refused .planMismatch) ∧
      (s.kelly.known = true → s.kelly.tob = true → s.planAligned order = true → s.planOnly order = true → x.inhibited = false →
        s.ctl.reseat = .idle → s.axes.relief = none →
        ∃ t, exec .releaseSettleExpiry s = .next t ∧ t.ring = s.ring ∧
          t.kelly.rotation = some ⟨.seating, .turning, s.kelly.angle, s.profile.confirmTorque, false, false⟩ ∧
          (∀ l e, order.plan = some l → l.find? (fun e' => e'.1 = e.1) = some e → t.kelly.st e.1 = .seating e.2) ∧
          (s.axes.governor = .free → t.axes.rotary.mode = .creep ∧ t.axes.rotary.request = creepSpeed * fine) ∧
          ∃ y, t.seq.stroke = some y ∧ y.phase = .seating ∧ y.outcome = none ∧ y.figures.seatAttempts = 1)) ∧
    (∀ x, s.seq.stroke = some x → x.releaseDwell ≠ some 0 → exec .releaseDwellExpiry s = .next s) ∧
    (∀ x, s.seq.stroke = some x → x.releaseDwell = some 0 →
      (s.kelly.tob = false → exec .releaseDwellExpiry s = .next { s with
        seq := { s.seq with stroke := some { x with releaseDwell := none } }
        mail := { s.mail with raises := s.mail.raises ++ [⟨.unseatFailed, s.toolDepth, false⟩] } }) ∧
      (s.kelly.tob = true → x.inhibited = false → s.ctl.reseat = .idle → s.axes.relief = none →
        ∃ t, exec .releaseDwellExpiry s = .next t ∧ t.ring = s.ring ∧
          t.kelly.rotation = some ⟨.unseating, .turning, s.kelly.angle, s.profile.confirmTorque, false, false⟩ ∧
          (∀ (k : Fin 5) (j : Fin 8), s.kelly.st k = .engaged j → t.kelly.st k = .unseating j) ∧
          (s.axes.governor = .free → t.axes.rotary.mode = .creep ∧ t.axes.rotary.request = -(creepSpeed * fine)) ∧
          ∃ y, t.seq.stroke = some y ∧ y.phase = .unseating ∧ y.outcome = x.outcome))

/-- The stroke's timers, in a state where nothing else waits: the sled watch and the rotation time limit end the stroke with TIMEOUT, the dwell
time with DONE; the unseat watch and the stuck watch stop their axis and raise SURVEY_FAILED. After the stuck watch the SURVEY has failed and has
no phase left to run (R171); that no boundary and no further stuck watch follows is log entry 75. A timer that is not due does nothing (log entry
4). The normal stop at an ending without closing phases is log entry 46. -/
def Obligations.StrokeTimers : Prop :=
  ∀ (s : State) (x : Stroke), s.seq.stroke = some x →
    let ended (c : Instr) (o : Outcome) : Prop := ∃ t, exec c s = .next t ∧ t = { s with axes := t.axes, seq := t.seq } ∧
      (∃ y, t.seq.stroke = some y ∧ y.outcome = some o ∧ y.closed = true ∧ y.endState = x.endState ∧ y.figures = x.figures) ∧
      (s.axes.governor = .free ∨ s.axes.governor = .normal →
        t.axes.hoist.request = 0 ∧ t.axes.rotary.request = 0 ∧ (s.ctl.latchRequest = false → t.axes.crowd.request = 0))
    let failed (c : Instr) (a : Axis) (y : Stroke) : Prop := ∃ t, exec c s = .next t ∧
      t = { s with
        axes := t.axes, seq := { s.seq with stroke := some y }
        mail := { s.mail with raises := s.mail.raises ++ [⟨.surveyFailed, s.toolDepth, false⟩] } } ∧
      (s.axes.governor = .free → (t.axes.get a).request = 0)
    (x.sledWatch ≠ some 0 → exec .sledWatchExpiry s = .next s) ∧
    (x.rotationLimit ≠ some 0 → exec .rotationTimeLimitExpiry s = .next s) ∧
    (x.dwell ≠ some 0 → exec .dwellTimeExpiry s = .next s) ∧
    (x.unseatWatch ≠ some 0 → exec .unseatWatchExpiry s = .next s) ∧
    (x.stuckWatch ≠ some 0 → exec .stuckWatchExpiry s = .next s) ∧
    (s.kelly.rotation = none → s.ctl.reseat = .idle → s.axes.relief = none →
      (x.sledWatch = some 0 → x.outcome = none → ended .sledWatchExpiry .timeout) ∧
      (x.rotationLimit = some 0 → x.inMotion = true → s.ring[x.index].order.kind = .spin →
        ended .rotationTimeLimitExpiry .timeout) ∧
      (x.dwell = some 0 → x.inMotion = true → s.ring[x.index].order.kind = .dwell → ended .dwellTimeExpiry .done)) ∧
    (x.rotationLimit = some 0 → x.inMotion = false → exec .rotationTimeLimitExpiry s =
      .next { s with seq := { s.seq with stroke := some { x with rotationLimit := none } } }) ∧
    (x.unseatWatch = some 0 → failed .unseatWatchExpiry .rotary { x with unseatWatch := none }) ∧
    (x.stuckWatch = some 0 → failed .stuckWatchExpiry .hoist { x with
      closed := true, sledWatch := none, rotationLimit := none, dwell := none, releaseDwell := none, unseatWatch := none
      stuckWatch := none, stuckCount := none })

/-! ### The order rule and the invariants -/

/-- The order rule over all interfaces of the kelly, or over some of them: held interfaces keep state and position and those left out keep their
position, every position stays within its travel, the positions together take what the released travel allows of an extension or a
retraction, and an extension reaches an interface only when every released one before it is at its travel end, a retraction only when every
released one beyond it is at 0. A released interface is then ALIGNED at a station within 40 mm of its position, and RELEASED where there is
none. -/
def Obligations.OrderRule : Prop :=
  ∀ (p : Profile) (m : Kelly) (e : Int) (keep : Fin 5 → Bool), State.PositionsInRange p m →
    let ks := p.members.filter keep
    let t := m.share p ks e
    let released (k : Fin 5) : Bool := (m.st k).isReleased
    (∀ k, released k = false → t.interfaces[k] = m.interfaces[k]) ∧ (∀ k, k ∉ ks → t.pos k = m.pos k) ∧ State.PositionsInRange p t ∧
    (∀ k, released k = true →
      let near (j : Fin 8) : Prop := (j.val : Int) < fig p.interfaces[k].count ∧
        ∃ x, p.interfaces[k].stations[j] = some x ∧ magnitude (t.pos k - x) ≤ 40
      (∀ j, t.st k = .aligned j → near j) ∧ ((∃ j, near j) → ∃ j, t.st k = .aligned j) ∧ ((∀ j, ¬ near j) → t.st k = .released)) ∧
    (0 ≤ e →
      (ks.map t.pos).sum - (ks.map m.pos).sum = min e (((ks.filter released).map fun k => p.travel k - m.pos k).sum) ∧
      ∀ j k : Fin 5, j.val < k.val → j ∈ ks → k ∈ ks → released j = true → t.pos k ≠ m.pos k → t.pos j = p.travel j) ∧
    (e < 0 →
      (ks.map m.pos).sum - (ks.map t.pos).sum = min (-e) (((ks.filter released).map m.pos).sum) ∧
      ∀ j k : Fin 5, k.val < j.val → j ∈ ks → k ∈ ks → released j = true → t.pos k ≠ m.pos k → t.pos j = 0)

/-- The state after reset meets every invariant stated here. -/
def Obligations.ResetMeetsInvariants : Prop :=
  State.reset.ClassesAtMinimum ∧ State.reset.DebtInRange ∧ State.reset.BuffersSound ∧ State.reset.SequencerSound ∧
  State.reset.profile.FiguresInRange

/-- Every step, on any state, keeps each of: no descriptor below its vector's minimum class; the accumulator below 12,000 mm and the debt 0 to
4; at most four requests held on a link, and none, nor a frame to send, on a DOWN link; every profile figure that is present within its
write range. -/
def Obligations.StepKeepsInvariants : Prop :=
  ∀ s t : State, step s = .next t →
    (s.ClassesAtMinimum → t.ClassesAtMinimum) ∧ (s.DebtInRange → t.DebtInRange) ∧ (s.BuffersSound → t.BuffersSound) ∧
    (s.profile.FiguresInRange → t.profile.FiguresInRange)

/-- Every step keeps the sequencer RUNNING exactly while a stroke is in flight, that stroke being the UNIT-owned entry at the next index. -/
def Obligations.StepKeepsSequencerSound : Prop :=
  ∀ s t : State, step s = .next t → s.SequencerSound → t.SequencerSound
end

