-- ==== Sys2Proof/Laws/State.lean ====
section
/-! SUPPORT. The small lemmas of the state's updates: what each writes and what it leaves, true by computation. -/
namespace Sys2Proof.Machine

/-! ### The named updates of a block -/

@[simp] theorem State.onKelly_kelly (f : Kelly → Kelly) (s : State) : (s.onKelly f).kelly = f s.kelly := rfl
@[simp] theorem State.onAxes_axes (f : Axes → Axes) (s : State) : (s.onAxes f).axes = f s.axes := rfl
@[simp] theorem State.onLimits_limits (f : Limits → Limits) (s : State) : (s.onLimits f).limits = f s.limits := rfl
@[simp] theorem State.onFaults_faults (f : Faults → Faults) (s : State) : (s.onFaults f).faults = f s.faults := rfl
@[simp] theorem State.onStroke_stroke (f : Stroke → Stroke) (s : State) : (s.onStroke f).seq.stroke = s.seq.stroke.map f := rfl
@[simp] theorem State.onStroke_state (f : Stroke → Stroke) (s : State) : (s.onStroke f).seq.state = s.seq.state := rfl
@[simp] theorem State.onStroke_next (f : Stroke → Stroke) (s : State) : (s.onStroke f).seq.next = s.seq.next := rfl
@[simp] theorem State.onMail_mail (f : Mail → Mail) (s : State) : (s.onMail f).mail = f s.mail := rfl
@[simp] theorem State.onLink_links (l : Link) (f : LinkCtl → LinkCtl) (s : State) : (s.onLink l f).links = s.links.modify l f := rfl
@[simp] theorem State.onRotation_rotation (f : Rotation → Rotation) (s : State) :
    (s.onRotation f).kelly.rotation = s.kelly.rotation.map f := rfl
@[simp] theorem State.onContext_context (f : Context → Context) (s : State) :
    (s.onContext f).faults.context = s.faults.context.map f := rfl
@[simp] theorem State.onContext_descriptors (f : Context → Context) (s : State) :
    (s.onContext f).faults.descriptors = s.faults.descriptors := rfl
@[simp] theorem State.onContext_state (f : Context → Context) (s : State) : (s.onContext f).faults.state = s.faults.state := rfl

/-! ### Access by link and by axis -/

@[simp] theorem PerLink.get_modify_self {α : Type} (p : PerLink α) (l : Link) (f : α → α) : (p.modify l f).get l = f (p.get l) := by
  cases l <;> rfl

theorem PerLink.get_modify_other {α : Type} (p : PerLink α) {l m : Link} (h : m ≠ l) (f : α → α) :
    (p.modify l f).get m = p.get m := by
  cases l <;> cases m <;> first | rfl | exact absurd rfl h

@[simp] theorem PerLink.get_map {α : Type} (p : PerLink α) (l : Link) (f : α → α) : (p.map f).get l = f (p.get l) := by
  cases l <;> rfl

@[simp] theorem PerLink.modify_modify {α : Type} (p : PerLink α) (l : Link) (f g : α → α) :
    (p.modify l f).modify l g = p.modify l (g ∘ f) := by
  cases l <;> rfl

@[simp] theorem Axes.get_modify_self (a : Axes) (x : Axis) (f : Channel → Channel) : (a.modify x f).get x = f (a.get x) := by
  cases x <;> rfl

theorem Axes.get_modify_other (a : Axes) {x y : Axis} (h : y ≠ x) (f : Channel → Channel) : (a.modify x f).get y = a.get y := by
  cases x <;> cases y <;> first | rfl | exact absurd rfl h

/-! ### Flags (R182, R183) -/

@[simp] theorem LinkCtl.noticeDue_flags (c : LinkCtl) : c.noticeDue.flags = c.flags := by
  simp only [LinkCtl.noticeDue]; split <;> rfl

@[simp] theorem LinkCtl.noticeDue_keeps (c : LinkCtl) :
    c.noticeDue.buffer = c.buffer ∧ c.noticeDue.enables = c.enables ∧ c.noticeDue.count = c.count ∧ c.noticeDue.up = c.up ∧
      c.noticeDue.idle = c.idle ∧ c.noticeDue.bus = c.bus := by
  simp only [LinkCtl.noticeDue]; split <;> simp

/-- What setting flags does: the flags join, and everything but the transmit queue stays. -/
@[simp] theorem LinkCtl.setFlags_spec (c : LinkCtl) (v : FlagSet) :
    (c.setFlags v).flags = c.flags ||| v ∧ (c.setFlags v).buffer = c.buffer ∧ (c.setFlags v).enables = c.enables ∧
      (c.setFlags v).count = c.count ∧ (c.setFlags v).up = c.up ∧ (c.setFlags v).idle = c.idle ∧
      (c.setFlags v).bus = c.bus := by
  simp only [LinkCtl.setFlags]; split <;> simp

/-- A frame joins the queue of an UP link alone. -/
@[simp] theorem LinkCtl.join_spec (c : LinkCtl) (f : TxFrame) :
    (c.join f).flags = c.flags ∧ (c.join f).buffer = c.buffer ∧ (c.join f).enables = c.enables ∧ (c.join f).count = c.count ∧
      (c.join f).up = c.up ∧ (c.join f).idle = c.idle ∧ (c.join f).bus = c.bus ∧
      (c.join f).queue = if c.up then c.queue ++ [f] else c.queue := by
  simp only [LinkCtl.join]; split <;> simp_all

/-! ### The operations of Flags and Ops -/

@[simp] theorem State.setFlags_frame (l : Link) (v : FlagSet) (s : State) :
    (State.setFlags l v s).pending = s.pending ∧ (State.setFlags l v s).profile = s.profile ∧
    (State.setFlags l v s).slurry = s.slurry ∧ (State.setFlags l v s).kelly = s.kelly ∧
    (State.setFlags l v s).marks = s.marks ∧ (State.setFlags l v s).ring = s.ring ∧
    (State.setFlags l v s).seq = s.seq ∧ (State.setFlags l v s).limits = s.limits ∧
    (State.setFlags l v s).axes = s.axes ∧ (State.setFlags l v s).env = s.env ∧
    (State.setFlags l v s).masks = s.masks ∧ (State.setFlags l v s).faults = s.faults ∧
    (State.setFlags l v s).ctl = s.ctl ∧ (State.setFlags l v s).sup = s.sup ∧ (State.setFlags l v s).mail = s.mail ∧
    (State.setFlags l v s).resetLine = s.resetLine ∧ (State.setFlags l v s).free = s.free := by
  simp only [State.setFlags]; (repeat' split) <;> simp

@[simp] theorem State.setFlagsAll_frame (v : FlagSet) (s : State) :
    (State.setFlagsAll v s).pending = s.pending ∧ (State.setFlagsAll v s).profile = s.profile ∧
    (State.setFlagsAll v s).slurry = s.slurry ∧ (State.setFlagsAll v s).kelly = s.kelly ∧
    (State.setFlagsAll v s).marks = s.marks ∧ (State.setFlagsAll v s).ring = s.ring ∧
    (State.setFlagsAll v s).seq = s.seq ∧ (State.setFlagsAll v s).limits = s.limits ∧
    (State.setFlagsAll v s).axes = s.axes ∧ (State.setFlagsAll v s).env = s.env ∧
    (State.setFlagsAll v s).masks = s.masks ∧ (State.setFlagsAll v s).faults = s.faults ∧
    (State.setFlagsAll v s).ctl = s.ctl ∧ (State.setFlagsAll v s).sup = s.sup ∧
    (State.setFlagsAll v s).mail = s.mail ∧ (State.setFlagsAll v s).resetLine = s.resetLine ∧
    (State.setFlagsAll v s).free = s.free := by
  simp only [State.setFlagsAll]; (repeat' split) <;> simp

@[simp] theorem State.setFlagsOn_frame (n : NotifySet) (v : FlagSet) (s : State) :
    (State.setFlagsOn n v s).pending = s.pending ∧ (State.setFlagsOn n v s).profile = s.profile ∧
    (State.setFlagsOn n v s).slurry = s.slurry ∧ (State.setFlagsOn n v s).kelly = s.kelly ∧
    (State.setFlagsOn n v s).marks = s.marks ∧ (State.setFlagsOn n v s).ring = s.ring ∧
    (State.setFlagsOn n v s).seq = s.seq ∧ (State.setFlagsOn n v s).limits = s.limits ∧
    (State.setFlagsOn n v s).axes = s.axes ∧ (State.setFlagsOn n v s).env = s.env ∧
    (State.setFlagsOn n v s).masks = s.masks ∧ (State.setFlagsOn n v s).faults = s.faults ∧
    (State.setFlagsOn n v s).ctl = s.ctl ∧ (State.setFlagsOn n v s).sup = s.sup ∧
    (State.setFlagsOn n v s).mail = s.mail ∧ (State.setFlagsOn n v s).resetLine = s.resetLine ∧
    (State.setFlagsOn n v s).free = s.free := by
  simp only [State.setFlagsOn]; (repeat' split) <;> simp

@[simp] theorem State.raiseAt_frame (v : FaultVector) (depth : Option Int) (s : State) :
    (State.raiseAt v depth s).pending = s.pending ∧ (State.raiseAt v depth s).profile = s.profile ∧
    (State.raiseAt v depth s).slurry = s.slurry ∧ (State.raiseAt v depth s).kelly = s.kelly ∧
    (State.raiseAt v depth s).marks = s.marks ∧ (State.raiseAt v depth s).ring = s.ring ∧
    (State.raiseAt v depth s).seq = s.seq ∧ (State.raiseAt v depth s).limits = s.limits ∧
    (State.raiseAt v depth s).axes = s.axes ∧ (State.raiseAt v depth s).env = s.env ∧
    (State.raiseAt v depth s).masks = s.masks ∧ (State.raiseAt v depth s).faults = s.faults ∧
    (State.raiseAt v depth s).ctl = s.ctl ∧ (State.raiseAt v depth s).sup = s.sup ∧
    (State.raiseAt v depth s).links = s.links ∧ (State.raiseAt v depth s).resetLine = s.resetLine ∧
    (State.raiseAt v depth s).free = s.free := by
  simp only [State.raiseAt]; (repeat' split) <;> simp

@[simp] theorem State.raise_frame (v : FaultVector) (s : State) :
    (State.raise v s).pending = s.pending ∧ (State.raise v s).profile = s.profile ∧
    (State.raise v s).slurry = s.slurry ∧ (State.raise v s).kelly = s.kelly ∧ (State.raise v s).marks = s.marks ∧
    (State.raise v s).ring = s.ring ∧ (State.raise v s).seq = s.seq ∧ (State.raise v s).limits = s.limits ∧
    (State.raise v s).axes = s.axes ∧ (State.raise v s).env = s.env ∧ (State.raise v s).masks = s.masks ∧
    (State.raise v s).faults = s.faults ∧ (State.raise v s).ctl = s.ctl ∧ (State.raise v s).sup = s.sup ∧
    (State.raise v s).links = s.links ∧ (State.raise v s).resetLine = s.resetLine ∧
    (State.raise v s).free = s.free := by
  simp only [State.raise]; (repeat' split) <;> simp

@[simp] theorem State.raiseDecision_frame (v : FaultVector) (s : State) :
    (State.raiseDecision v s).pending = s.pending ∧ (State.raiseDecision v s).profile = s.profile ∧
    (State.raiseDecision v s).slurry = s.slurry ∧ (State.raiseDecision v s).kelly = s.kelly ∧
    (State.raiseDecision v s).marks = s.marks ∧ (State.raiseDecision v s).ring = s.ring ∧
    (State.raiseDecision v s).seq = s.seq ∧ (State.raiseDecision v s).limits = s.limits ∧
    (State.raiseDecision v s).axes = s.axes ∧ (State.raiseDecision v s).env = s.env ∧
    (State.raiseDecision v s).masks = s.masks ∧ (State.raiseDecision v s).faults = s.faults ∧
    (State.raiseDecision v s).ctl = s.ctl ∧ (State.raiseDecision v s).sup = s.sup ∧
    (State.raiseDecision v s).links = s.links ∧ (State.raiseDecision v s).resetLine = s.resetLine ∧
    (State.raiseDecision v s).free = s.free := by
  simp only [State.raiseDecision]; (repeat' split) <;> simp

@[simp] theorem State.trigger_frame (t : Trigger) (s : State) :
    (State.trigger t s).pending = s.pending ∧ (State.trigger t s).profile = s.profile ∧
    (State.trigger t s).slurry = s.slurry ∧ (State.trigger t s).kelly = s.kelly ∧
    (State.trigger t s).marks = s.marks ∧ (State.trigger t s).ring = s.ring ∧ (State.trigger t s).seq = s.seq ∧
    (State.trigger t s).limits = s.limits ∧ (State.trigger t s).axes = s.axes ∧ (State.trigger t s).env = s.env ∧
    (State.trigger t s).masks = s.masks ∧ (State.trigger t s).faults = s.faults ∧ (State.trigger t s).ctl = s.ctl ∧
    (State.trigger t s).sup = s.sup ∧ (State.trigger t s).links = s.links ∧
    (State.trigger t s).resetLine = s.resetLine ∧ (State.trigger t s).free = s.free := by
  simp only [State.trigger]; (repeat' split) <;> simp

@[simp] theorem State.restartWindow_frame (d : Option Int) (s : State) :
    (State.restartWindow d s).pending = s.pending ∧ (State.restartWindow d s).profile = s.profile ∧
    (State.restartWindow d s).slurry = s.slurry ∧ (State.restartWindow d s).kelly = s.kelly ∧
    (State.restartWindow d s).marks = s.marks ∧ (State.restartWindow d s).ring = s.ring ∧
    (State.restartWindow d s).seq = s.seq ∧ (State.restartWindow d s).limits = s.limits ∧
    (State.restartWindow d s).env = s.env ∧ (State.restartWindow d s).masks = s.masks ∧
    (State.restartWindow d s).faults = s.faults ∧ (State.restartWindow d s).ctl = s.ctl ∧
    (State.restartWindow d s).sup = s.sup ∧ (State.restartWindow d s).links = s.links ∧
    (State.restartWindow d s).mail = s.mail ∧ (State.restartWindow d s).resetLine = s.resetLine ∧
    (State.restartWindow d s).free = s.free := by
  simp only [State.restartWindow]; (repeat' split) <;> simp

@[simp] theorem State.watchProgress_frame (s : State) :
    (State.watchProgress s).pending = s.pending ∧ (State.watchProgress s).profile = s.profile ∧
    (State.watchProgress s).slurry = s.slurry ∧ (State.watchProgress s).kelly = s.kelly ∧
    (State.watchProgress s).marks = s.marks ∧ (State.watchProgress s).ring = s.ring ∧
    (State.watchProgress s).seq = s.seq ∧ (State.watchProgress s).limits = s.limits ∧
    (State.watchProgress s).env = s.env ∧ (State.watchProgress s).masks = s.masks ∧
    (State.watchProgress s).faults = s.faults ∧ (State.watchProgress s).ctl = s.ctl ∧
    (State.watchProgress s).sup = s.sup ∧ (State.watchProgress s).links = s.links ∧
    (State.watchProgress s).mail = s.mail ∧ (State.watchProgress s).resetLine = s.resetLine ∧
    (State.watchProgress s).free = s.free := by
  simp only [State.watchProgress]; (repeat' split) <;> simp

@[simp] theorem State.handOnDepth_frame (old : Option Int) (s : State) :
    (State.handOnDepth old s).pending = s.pending ∧ (State.handOnDepth old s).profile = s.profile ∧
    (State.handOnDepth old s).slurry = s.slurry ∧ (State.handOnDepth old s).kelly = s.kelly ∧
    (State.handOnDepth old s).marks = s.marks ∧ (State.handOnDepth old s).ring = s.ring ∧
    (State.handOnDepth old s).seq = s.seq ∧ (State.handOnDepth old s).limits = s.limits ∧
    (State.handOnDepth old s).env = s.env ∧ (State.handOnDepth old s).masks = s.masks ∧
    (State.handOnDepth old s).faults = s.faults ∧ (State.handOnDepth old s).ctl = s.ctl ∧
    (State.handOnDepth old s).sup = s.sup ∧ (State.handOnDepth old s).links = s.links ∧
    (State.handOnDepth old s).resetLine = s.resetLine ∧ (State.handOnDepth old s).free = s.free := by
  simp only [State.handOnDepth]; (repeat' split) <;> simp

@[simp] theorem State.handOnUnion_frame (old : Mask) (s : State) :
    (State.handOnUnion old s).pending = s.pending ∧ (State.handOnUnion old s).profile = s.profile ∧
    (State.handOnUnion old s).slurry = s.slurry ∧ (State.handOnUnion old s).kelly = s.kelly ∧
    (State.handOnUnion old s).marks = s.marks ∧ (State.handOnUnion old s).ring = s.ring ∧
    (State.handOnUnion old s).seq = s.seq ∧ (State.handOnUnion old s).limits = s.limits ∧
    (State.handOnUnion old s).axes = s.axes ∧ (State.handOnUnion old s).env = s.env ∧
    (State.handOnUnion old s).masks = s.masks ∧ (State.handOnUnion old s).faults = s.faults ∧
    (State.handOnUnion old s).ctl = s.ctl ∧ (State.handOnUnion old s).sup = s.sup ∧
    (State.handOnUnion old s).links = s.links ∧ (State.handOnUnion old s).resetLine = s.resetLine ∧
    (State.handOnUnion old s).free = s.free := by
  simp only [State.handOnUnion]; (repeat' split) <;> simp

@[simp] theorem State.handOnTob_frame (old : Bool) (s : State) :
    (State.handOnTob old s).pending = s.pending ∧ (State.handOnTob old s).profile = s.profile ∧
    (State.handOnTob old s).slurry = s.slurry ∧ (State.handOnTob old s).kelly = s.kelly ∧
    (State.handOnTob old s).marks = s.marks ∧ (State.handOnTob old s).ring = s.ring ∧
    (State.handOnTob old s).seq = s.seq ∧ (State.handOnTob old s).limits = s.limits ∧
    (State.handOnTob old s).axes = s.axes ∧ (State.handOnTob old s).env = s.env ∧
    (State.handOnTob old s).masks = s.masks ∧ (State.handOnTob old s).faults = s.faults ∧
    (State.handOnTob old s).ctl = s.ctl ∧ (State.handOnTob old s).sup = s.sup ∧
    (State.handOnTob old s).links = s.links ∧ (State.handOnTob old s).resetLine = s.resetLine ∧
    (State.handOnTob old s).free = s.free := by
  simp only [State.handOnTob]; (repeat' split) <;> simp

@[simp] theorem State.setSeqState_frame (q : SeqState) (s : State) :
    (State.setSeqState q s).pending = s.pending ∧ (State.setSeqState q s).profile = s.profile ∧
    (State.setSeqState q s).slurry = s.slurry ∧ (State.setSeqState q s).kelly = s.kelly ∧
    (State.setSeqState q s).marks = s.marks ∧ (State.setSeqState q s).ring = s.ring ∧
    (State.setSeqState q s).limits = s.limits ∧ (State.setSeqState q s).axes = s.axes ∧
    (State.setSeqState q s).env = s.env ∧ (State.setSeqState q s).masks = s.masks ∧
    (State.setSeqState q s).faults = s.faults ∧ (State.setSeqState q s).ctl = s.ctl ∧
    (State.setSeqState q s).sup = s.sup ∧ (State.setSeqState q s).mail = s.mail ∧
    (State.setSeqState q s).resetLine = s.resetLine ∧ (State.setSeqState q s).free = s.free := by
  simp only [State.setSeqState]; (repeat' split) <;> simp

@[simp] theorem State.onStroke_frame (f : Stroke → Stroke) (s : State) :
    (State.onStroke f s).pending = s.pending ∧ (State.onStroke f s).profile = s.profile ∧
    (State.onStroke f s).slurry = s.slurry ∧ (State.onStroke f s).kelly = s.kelly ∧
    (State.onStroke f s).marks = s.marks ∧ (State.onStroke f s).ring = s.ring ∧
    (State.onStroke f s).limits = s.limits ∧ (State.onStroke f s).axes = s.axes ∧ (State.onStroke f s).env = s.env ∧
    (State.onStroke f s).masks = s.masks ∧ (State.onStroke f s).faults = s.faults ∧ (State.onStroke f s).ctl = s.ctl ∧
    (State.onStroke f s).sup = s.sup ∧ (State.onStroke f s).links = s.links ∧ (State.onStroke f s).mail = s.mail ∧
    (State.onStroke f s).resetLine = s.resetLine ∧ (State.onStroke f s).free = s.free := by
  simp only [State.onStroke]; (repeat' split) <;> simp

@[simp] theorem State.answer_frame (l : Link) (q : Request) (r : Result) (v : Int) (s : State) :
    (State.answer l q r v s).pending = s.pending ∧ (State.answer l q r v s).profile = s.profile ∧
    (State.answer l q r v s).slurry = s.slurry ∧ (State.answer l q r v s).kelly = s.kelly ∧
    (State.answer l q r v s).marks = s.marks ∧ (State.answer l q r v s).ring = s.ring ∧
    (State.answer l q r v s).seq = s.seq ∧ (State.answer l q r v s).limits = s.limits ∧
    (State.answer l q r v s).axes = s.axes ∧ (State.answer l q r v s).env = s.env ∧
    (State.answer l q r v s).masks = s.masks ∧ (State.answer l q r v s).faults = s.faults ∧
    (State.answer l q r v s).ctl = s.ctl ∧ (State.answer l q r v s).sup = s.sup ∧
    (State.answer l q r v s).mail = s.mail ∧ (State.answer l q r v s).resetLine = s.resetLine ∧
    (State.answer l q r v s).free = s.free := by
  simp only [State.answer]; (repeat' split) <;> simp

@[simp] theorem State.answerReset_frame (l : Link) (q : Request) (s : State) :
    (State.answerReset l q s).pending = s.pending ∧ (State.answerReset l q s).profile = s.profile ∧
    (State.answerReset l q s).slurry = s.slurry ∧ (State.answerReset l q s).kelly = s.kelly ∧
    (State.answerReset l q s).marks = s.marks ∧ (State.answerReset l q s).ring = s.ring ∧
    (State.answerReset l q s).seq = s.seq ∧ (State.answerReset l q s).limits = s.limits ∧
    (State.answerReset l q s).axes = s.axes ∧ (State.answerReset l q s).env = s.env ∧
    (State.answerReset l q s).masks = s.masks ∧ (State.answerReset l q s).faults = s.faults ∧
    (State.answerReset l q s).ctl = s.ctl ∧ (State.answerReset l q s).sup = s.sup ∧
    (State.answerReset l q s).mail = s.mail ∧ (State.answerReset l q s).resetLine = s.resetLine ∧
    (State.answerReset l q s).free = s.free := by
  simp only [State.answerReset]; (repeat' split) <;> simp

@[simp] theorem State.refuse_frame (l : Link) (q : Request) (r : Result) (s : State) :
    (State.refuse l q r s).pending = s.pending ∧ (State.refuse l q r s).profile = s.profile ∧
    (State.refuse l q r s).slurry = s.slurry ∧ (State.refuse l q r s).kelly = s.kelly ∧
    (State.refuse l q r s).marks = s.marks ∧ (State.refuse l q r s).ring = s.ring ∧
    (State.refuse l q r s).seq = s.seq ∧ (State.refuse l q r s).limits = s.limits ∧
    (State.refuse l q r s).axes = s.axes ∧ (State.refuse l q r s).env = s.env ∧
    (State.refuse l q r s).masks = s.masks ∧ (State.refuse l q r s).faults = s.faults ∧
    (State.refuse l q r s).ctl = s.ctl ∧ (State.refuse l q r s).sup = s.sup ∧ (State.refuse l q r s).mail = s.mail ∧
    (State.refuse l q r s).resetLine = s.resetLine ∧ (State.refuse l q r s).free = s.free := by
  simp only [State.refuse]; (repeat' split) <;> simp

@[simp] theorem State.onKelly_frame (f : Kelly → Kelly) (s : State) :
    (State.onKelly f s).pending = s.pending ∧ (State.onKelly f s).profile = s.profile ∧
    (State.onKelly f s).slurry = s.slurry ∧ (State.onKelly f s).marks = s.marks ∧ (State.onKelly f s).ring = s.ring ∧
    (State.onKelly f s).seq = s.seq ∧ (State.onKelly f s).limits = s.limits ∧ (State.onKelly f s).axes = s.axes ∧
    (State.onKelly f s).env = s.env ∧ (State.onKelly f s).masks = s.masks ∧ (State.onKelly f s).faults = s.faults ∧
    (State.onKelly f s).ctl = s.ctl ∧ (State.onKelly f s).sup = s.sup ∧ (State.onKelly f s).links = s.links ∧
    (State.onKelly f s).mail = s.mail ∧ (State.onKelly f s).resetLine = s.resetLine ∧
    (State.onKelly f s).free = s.free := by
  simp only [State.onKelly]; (repeat' split) <;> simp

@[simp] theorem State.onAxes_frame (f : Axes → Axes) (s : State) :
    (State.onAxes f s).pending = s.pending ∧ (State.onAxes f s).profile = s.profile ∧
    (State.onAxes f s).slurry = s.slurry ∧ (State.onAxes f s).kelly = s.kelly ∧ (State.onAxes f s).marks = s.marks ∧
    (State.onAxes f s).ring = s.ring ∧ (State.onAxes f s).seq = s.seq ∧ (State.onAxes f s).limits = s.limits ∧
    (State.onAxes f s).env = s.env ∧ (State.onAxes f s).masks = s.masks ∧ (State.onAxes f s).faults = s.faults ∧
    (State.onAxes f s).ctl = s.ctl ∧ (State.onAxes f s).sup = s.sup ∧ (State.onAxes f s).links = s.links ∧
    (State.onAxes f s).mail = s.mail ∧ (State.onAxes f s).resetLine = s.resetLine ∧
    (State.onAxes f s).free = s.free := by
  simp only [State.onAxes]; (repeat' split) <;> simp

@[simp] theorem State.onLimits_frame (f : Limits → Limits) (s : State) :
    (State.onLimits f s).pending = s.pending ∧ (State.onLimits f s).profile = s.profile ∧
    (State.onLimits f s).slurry = s.slurry ∧ (State.onLimits f s).kelly = s.kelly ∧
    (State.onLimits f s).marks = s.marks ∧ (State.onLimits f s).ring = s.ring ∧ (State.onLimits f s).seq = s.seq ∧
    (State.onLimits f s).axes = s.axes ∧ (State.onLimits f s).env = s.env ∧ (State.onLimits f s).masks = s.masks ∧
    (State.onLimits f s).faults = s.faults ∧ (State.onLimits f s).ctl = s.ctl ∧ (State.onLimits f s).sup = s.sup ∧
    (State.onLimits f s).links = s.links ∧ (State.onLimits f s).mail = s.mail ∧
    (State.onLimits f s).resetLine = s.resetLine ∧ (State.onLimits f s).free = s.free := by
  simp only [State.onLimits]; (repeat' split) <;> simp

@[simp] theorem State.onFaults_frame (f : Faults → Faults) (s : State) :
    (State.onFaults f s).pending = s.pending ∧ (State.onFaults f s).profile = s.profile ∧
    (State.onFaults f s).slurry = s.slurry ∧ (State.onFaults f s).kelly = s.kelly ∧
    (State.onFaults f s).marks = s.marks ∧ (State.onFaults f s).ring = s.ring ∧ (State.onFaults f s).seq = s.seq ∧
    (State.onFaults f s).limits = s.limits ∧ (State.onFaults f s).axes = s.axes ∧ (State.onFaults f s).env = s.env ∧
    (State.onFaults f s).masks = s.masks ∧ (State.onFaults f s).ctl = s.ctl ∧ (State.onFaults f s).sup = s.sup ∧
    (State.onFaults f s).links = s.links ∧ (State.onFaults f s).mail = s.mail ∧
    (State.onFaults f s).resetLine = s.resetLine ∧ (State.onFaults f s).free = s.free := by
  simp only [State.onFaults]; (repeat' split) <;> simp

/-! ### Equality of states -/

/-- Two states with the same fields are equal. -/
theorem State.eq_of_fields {s t : State}
    (_ : s.pending = t.pending) (_ : s.profile = t.profile) (_ : s.slurry = t.slurry) (_ : s.kelly = t.kelly) (_ :
    s.marks = t.marks) (_ : s.ring = t.ring) (_ : s.seq = t.seq) (_ : s.limits = t.limits) (_ : s.axes = t.axes) (_ :
    s.env = t.env) (_ : s.masks = t.masks) (_ : s.faults = t.faults) (_ : s.ctl = t.ctl) (_ : s.sup = t.sup) (_ :
    s.links = t.links) (_ : s.mail = t.mail) (_ : s.resetLine = t.resetLine) (_ : s.free = t.free) :
    s = t := by
  cases s; cases t; simp_all

end Sys2Proof.Machine
end

