-- ==== Sys2Proof/Laws/Frames.lean ====
section
/-! SUPPORT. What each operation leaves unchanged, one lemma for each: the blocks of the state it does not write. -/
namespace Sys2Proof.Machine

@[simp] theorem State.enterTension_frame (request : Int) (s : State) :
    (State.enterTension request s).pending = s.pending ∧ (State.enterTension request s).profile = s.profile ∧
    (State.enterTension request s).slurry = s.slurry ∧ (State.enterTension request s).kelly = s.kelly ∧
    (State.enterTension request s).marks = s.marks ∧ (State.enterTension request s).ring = s.ring ∧
    (State.enterTension request s).seq = s.seq ∧ (State.enterTension request s).limits = s.limits ∧
    (State.enterTension request s).env = s.env ∧ (State.enterTension request s).masks = s.masks ∧
    (State.enterTension request s).faults = s.faults ∧ (State.enterTension request s).ctl = s.ctl ∧
    (State.enterTension request s).sup = s.sup ∧ (State.enterTension request s).links = s.links ∧
    (State.enterTension request s).mail = s.mail ∧ (State.enterTension request s).resetLine = s.resetLine ∧
    (State.enterTension request s).free = s.free := by
  simp only [State.enterTension]; (repeat' split) <;> simp

@[simp] theorem State.settleTension_frame (s : State) :
    (State.settleTension s).pending = s.pending ∧ (State.settleTension s).profile = s.profile ∧
    (State.settleTension s).slurry = s.slurry ∧ (State.settleTension s).kelly = s.kelly ∧
    (State.settleTension s).marks = s.marks ∧ (State.settleTension s).ring = s.ring ∧
    (State.settleTension s).seq = s.seq ∧ (State.settleTension s).limits = s.limits ∧
    (State.settleTension s).env = s.env ∧ (State.settleTension s).masks = s.masks ∧
    (State.settleTension s).faults = s.faults ∧ (State.settleTension s).ctl = s.ctl ∧
    (State.settleTension s).sup = s.sup ∧ (State.settleTension s).links = s.links ∧
    (State.settleTension s).mail = s.mail ∧ (State.settleTension s).resetLine = s.resetLine ∧
    (State.settleTension s).free = s.free := by
  simp only [State.settleTension]; (repeat' split) <;> simp

@[simp] theorem State.settleChannel_frame (x : Axis) (s : State) :
    (State.settleChannel x s).pending = s.pending ∧ (State.settleChannel x s).profile = s.profile ∧
    (State.settleChannel x s).slurry = s.slurry ∧ (State.settleChannel x s).kelly = s.kelly ∧
    (State.settleChannel x s).marks = s.marks ∧ (State.settleChannel x s).ring = s.ring ∧
    (State.settleChannel x s).seq = s.seq ∧ (State.settleChannel x s).limits = s.limits ∧
    (State.settleChannel x s).env = s.env ∧ (State.settleChannel x s).masks = s.masks ∧
    (State.settleChannel x s).faults = s.faults ∧ (State.settleChannel x s).ctl = s.ctl ∧
    (State.settleChannel x s).sup = s.sup ∧ (State.settleChannel x s).links = s.links ∧
    (State.settleChannel x s).mail = s.mail ∧ (State.settleChannel x s).resetLine = s.resetLine ∧
    (State.settleChannel x s).free = s.free := by
  simp only [State.settleChannel]; (repeat' split) <;> simp

@[simp] theorem State.arrive_frame (s : State) :
    (State.arrive s).pending = s.pending ∧ (State.arrive s).profile = s.profile ∧ (State.arrive s).slurry = s.slurry ∧
    (State.arrive s).kelly = s.kelly ∧ (State.arrive s).marks = s.marks ∧ (State.arrive s).ring = s.ring ∧
    (State.arrive s).seq = s.seq ∧ (State.arrive s).limits = s.limits ∧ (State.arrive s).env = s.env ∧
    (State.arrive s).masks = s.masks ∧ (State.arrive s).faults = s.faults ∧ (State.arrive s).ctl = s.ctl ∧
    (State.arrive s).sup = s.sup ∧ (State.arrive s).links = s.links ∧ (State.arrive s).mail = s.mail ∧
    (State.arrive s).resetLine = s.resetLine ∧ (State.arrive s).free = s.free := by
  simp only [State.arrive]; (repeat' split) <;> simp

@[simp] theorem State.settle_frame (s : State) :
    (State.settle s).pending = s.pending ∧ (State.settle s).profile = s.profile ∧ (State.settle s).slurry = s.slurry ∧
    (State.settle s).kelly = s.kelly ∧ (State.settle s).marks = s.marks ∧ (State.settle s).ring = s.ring ∧
    (State.settle s).seq = s.seq ∧ (State.settle s).limits = s.limits ∧ (State.settle s).env = s.env ∧
    (State.settle s).masks = s.masks ∧ (State.settle s).faults = s.faults ∧ (State.settle s).ctl = s.ctl ∧
    (State.settle s).sup = s.sup ∧ (State.settle s).links = s.links ∧ (State.settle s).mail = s.mail ∧
    (State.settle s).resetLine = s.resetLine ∧ (State.settle s).free = s.free := by
  simp only [State.settle]; (repeat' split) <;> simp

@[simp] theorem State.arriveOn_frame (x : Axis) (s : State) :
    (State.arriveOn x s).pending = s.pending ∧ (State.arriveOn x s).profile = s.profile ∧ (State.arriveOn x s).slurry = s.slurry ∧
    (State.arriveOn x s).kelly = s.kelly ∧ (State.arriveOn x s).marks = s.marks ∧ (State.arriveOn x s).ring = s.ring ∧
    (State.arriveOn x s).seq = s.seq ∧ (State.arriveOn x s).limits = s.limits ∧ (State.arriveOn x s).env = s.env ∧
    (State.arriveOn x s).masks = s.masks ∧ (State.arriveOn x s).faults = s.faults ∧ (State.arriveOn x s).ctl = s.ctl ∧
    (State.arriveOn x s).sup = s.sup ∧ (State.arriveOn x s).links = s.links ∧ (State.arriveOn x s).mail = s.mail ∧
    (State.arriveOn x s).resetLine = s.resetLine ∧ (State.arriveOn x s).free = s.free := by
  simp only [State.arriveOn]; split <;> simp

@[simp] theorem State.phaseRequest_frame (x : Axis) (q : PhaseReq) (s : State) :
    (State.phaseRequest x q s).pending = s.pending ∧ (State.phaseRequest x q s).profile = s.profile ∧
    (State.phaseRequest x q s).slurry = s.slurry ∧ (State.phaseRequest x q s).kelly = s.kelly ∧
    (State.phaseRequest x q s).marks = s.marks ∧ (State.phaseRequest x q s).ring = s.ring ∧
    (State.phaseRequest x q s).seq = s.seq ∧ (State.phaseRequest x q s).limits = s.limits ∧
    (State.phaseRequest x q s).env = s.env ∧ (State.phaseRequest x q s).masks = s.masks ∧
    (State.phaseRequest x q s).faults = s.faults ∧ (State.phaseRequest x q s).ctl = s.ctl ∧
    (State.phaseRequest x q s).sup = s.sup ∧ (State.phaseRequest x q s).links = s.links ∧
    (State.phaseRequest x q s).mail = s.mail ∧ (State.phaseRequest x q s).resetLine = s.resetLine ∧
    (State.phaseRequest x q s).free = s.free := by
  simp only [State.phaseRequest]; (repeat' split) <;> simp

@[simp] theorem State.formPosition_frame (sled : Int) (s : State) :
    (State.formPosition sled s).pending = s.pending ∧ (State.formPosition sled s).profile = s.profile ∧
    (State.formPosition sled s).slurry = s.slurry ∧ (State.formPosition sled s).kelly = s.kelly ∧
    (State.formPosition sled s).marks = s.marks ∧ (State.formPosition sled s).ring = s.ring ∧
    (State.formPosition sled s).seq = s.seq ∧ (State.formPosition sled s).limits = s.limits ∧
    (State.formPosition sled s).env = s.env ∧ (State.formPosition sled s).masks = s.masks ∧
    (State.formPosition sled s).faults = s.faults ∧ (State.formPosition sled s).ctl = s.ctl ∧
    (State.formPosition sled s).sup = s.sup ∧ (State.formPosition sled s).links = s.links ∧
    (State.formPosition sled s).mail = s.mail ∧ (State.formPosition sled s).resetLine = s.resetLine ∧
    (State.formPosition sled s).free = s.free := by
  simp only [State.formPosition]; (repeat' split) <;> simp

@[simp] theorem State.normalStopOn_frame (x : Axis) (s : State) :
    (State.normalStopOn x s).pending = s.pending ∧ (State.normalStopOn x s).profile = s.profile ∧
    (State.normalStopOn x s).slurry = s.slurry ∧ (State.normalStopOn x s).kelly = s.kelly ∧
    (State.normalStopOn x s).marks = s.marks ∧ (State.normalStopOn x s).ring = s.ring ∧
    (State.normalStopOn x s).seq = s.seq ∧ (State.normalStopOn x s).limits = s.limits ∧
    (State.normalStopOn x s).env = s.env ∧ (State.normalStopOn x s).masks = s.masks ∧
    (State.normalStopOn x s).faults = s.faults ∧ (State.normalStopOn x s).ctl = s.ctl ∧
    (State.normalStopOn x s).sup = s.sup ∧ (State.normalStopOn x s).links = s.links ∧
    (State.normalStopOn x s).mail = s.mail ∧ (State.normalStopOn x s).resetLine = s.resetLine ∧
    (State.normalStopOn x s).free = s.free := by
  simp only [State.normalStopOn]; (repeat' split) <;> simp

@[simp] theorem State.normalStopAll_frame (s : State) :
    (State.normalStopAll s).pending = s.pending ∧ (State.normalStopAll s).profile = s.profile ∧
    (State.normalStopAll s).slurry = s.slurry ∧ (State.normalStopAll s).kelly = s.kelly ∧
    (State.normalStopAll s).marks = s.marks ∧ (State.normalStopAll s).ring = s.ring ∧
    (State.normalStopAll s).seq = s.seq ∧ (State.normalStopAll s).limits = s.limits ∧
    (State.normalStopAll s).env = s.env ∧ (State.normalStopAll s).masks = s.masks ∧
    (State.normalStopAll s).faults = s.faults ∧ (State.normalStopAll s).ctl = s.ctl ∧
    (State.normalStopAll s).sup = s.sup ∧ (State.normalStopAll s).links = s.links ∧
    (State.normalStopAll s).mail = s.mail ∧ (State.normalStopAll s).resetLine = s.resetLine ∧
    (State.normalStopAll s).free = s.free := by
  simp only [State.normalStopAll]; (repeat' split) <;> simp

@[simp] theorem State.stopStanding_frame (s : State) :
    (State.stopStanding s).pending = s.pending ∧ (State.stopStanding s).profile = s.profile ∧
    (State.stopStanding s).slurry = s.slurry ∧ (State.stopStanding s).kelly = s.kelly ∧
    (State.stopStanding s).marks = s.marks ∧ (State.stopStanding s).ring = s.ring ∧
    (State.stopStanding s).seq = s.seq ∧ (State.stopStanding s).limits = s.limits ∧
    (State.stopStanding s).env = s.env ∧ (State.stopStanding s).masks = s.masks ∧
    (State.stopStanding s).faults = s.faults ∧ (State.stopStanding s).ctl = s.ctl ∧
    (State.stopStanding s).sup = s.sup ∧ (State.stopStanding s).links = s.links ∧
    (State.stopStanding s).mail = s.mail ∧ (State.stopStanding s).resetLine = s.resetLine ∧
    (State.stopStanding s).free = s.free := by
  simp only [State.stopStanding]; (repeat' split) <;> simp

@[simp] theorem State.fastStopAll_frame (s : State) :
    (State.fastStopAll s).pending = s.pending ∧ (State.fastStopAll s).profile = s.profile ∧
    (State.fastStopAll s).slurry = s.slurry ∧ (State.fastStopAll s).kelly = s.kelly ∧
    (State.fastStopAll s).marks = s.marks ∧ (State.fastStopAll s).ring = s.ring ∧ (State.fastStopAll s).seq = s.seq ∧
    (State.fastStopAll s).limits = s.limits ∧ (State.fastStopAll s).env = s.env ∧
    (State.fastStopAll s).masks = s.masks ∧ (State.fastStopAll s).faults = s.faults ∧
    (State.fastStopAll s).ctl = s.ctl ∧ (State.fastStopAll s).sup = s.sup ∧ (State.fastStopAll s).links = s.links ∧
    (State.fastStopAll s).mail = s.mail ∧ (State.fastStopAll s).resetLine = s.resetLine ∧
    (State.fastStopAll s).free = s.free := by
  simp only [State.fastStopAll]; (repeat' split) <;> simp

@[simp] theorem State.cutAll_frame (s : State) :
    (State.cutAll s).pending = s.pending ∧ (State.cutAll s).profile = s.profile ∧ (State.cutAll s).slurry = s.slurry ∧
    (State.cutAll s).kelly = s.kelly ∧ (State.cutAll s).marks = s.marks ∧ (State.cutAll s).ring = s.ring ∧
    (State.cutAll s).seq = s.seq ∧ (State.cutAll s).limits = s.limits ∧ (State.cutAll s).env = s.env ∧
    (State.cutAll s).masks = s.masks ∧ (State.cutAll s).faults = s.faults ∧ (State.cutAll s).ctl = s.ctl ∧
    (State.cutAll s).sup = s.sup ∧ (State.cutAll s).links = s.links ∧ (State.cutAll s).mail = s.mail ∧
    (State.cutAll s).resetLine = s.resetLine ∧ (State.cutAll s).free = s.free := by
  simp only [State.cutAll]; (repeat' split) <;> simp

@[simp] theorem State.renewLatch_frame (s : State) :
    (State.renewLatch s).pending = s.pending ∧ (State.renewLatch s).profile = s.profile ∧
    (State.renewLatch s).slurry = s.slurry ∧ (State.renewLatch s).kelly = s.kelly ∧
    (State.renewLatch s).marks = s.marks ∧ (State.renewLatch s).ring = s.ring ∧ (State.renewLatch s).seq = s.seq ∧
    (State.renewLatch s).limits = s.limits ∧ (State.renewLatch s).env = s.env ∧ (State.renewLatch s).masks = s.masks ∧
    (State.renewLatch s).faults = s.faults ∧ (State.renewLatch s).ctl = s.ctl ∧ (State.renewLatch s).sup = s.sup ∧
    (State.renewLatch s).links = s.links ∧ (State.renewLatch s).mail = s.mail ∧
    (State.renewLatch s).resetLine = s.resetLine ∧ (State.renewLatch s).free = s.free := by
  simp only [State.renewLatch]; (repeat' split) <;> simp

@[simp] theorem State.freeGovernors_frame (s : State) :
    (State.freeGovernors s).pending = s.pending ∧ (State.freeGovernors s).profile = s.profile ∧
    (State.freeGovernors s).slurry = s.slurry ∧ (State.freeGovernors s).kelly = s.kelly ∧
    (State.freeGovernors s).marks = s.marks ∧ (State.freeGovernors s).ring = s.ring ∧
    (State.freeGovernors s).seq = s.seq ∧ (State.freeGovernors s).limits = s.limits ∧
    (State.freeGovernors s).env = s.env ∧ (State.freeGovernors s).masks = s.masks ∧
    (State.freeGovernors s).faults = s.faults ∧ (State.freeGovernors s).ctl = s.ctl ∧
    (State.freeGovernors s).sup = s.sup ∧ (State.freeGovernors s).links = s.links ∧
    (State.freeGovernors s).mail = s.mail ∧ (State.freeGovernors s).resetLine = s.resetLine ∧
    (State.freeGovernors s).free = s.free := by
  simp only [State.freeGovernors]; (repeat' split) <;> simp

@[simp] theorem State.takeOrder_frame (o : ChannelOrder) (s : State) :
    (State.takeOrder o s).pending = s.pending ∧ (State.takeOrder o s).profile = s.profile ∧
    (State.takeOrder o s).slurry = s.slurry ∧ (State.takeOrder o s).kelly = s.kelly ∧
    (State.takeOrder o s).marks = s.marks ∧ (State.takeOrder o s).ring = s.ring ∧ (State.takeOrder o s).seq = s.seq ∧
    (State.takeOrder o s).limits = s.limits ∧ (State.takeOrder o s).env = s.env ∧
    (State.takeOrder o s).masks = s.masks ∧ (State.takeOrder o s).faults = s.faults ∧
    (State.takeOrder o s).ctl = s.ctl ∧ (State.takeOrder o s).sup = s.sup ∧ (State.takeOrder o s).links = s.links ∧
    (State.takeOrder o s).mail = s.mail ∧ (State.takeOrder o s).resetLine = s.resetLine ∧
    (State.takeOrder o s).free = s.free := by
  simp only [State.takeOrder]; (repeat' split) <;> simp

@[simp] theorem State.evalTob_frame (s : State) :
    (State.evalTob s).pending = s.pending ∧ (State.evalTob s).profile = s.profile ∧
    (State.evalTob s).slurry = s.slurry ∧ (State.evalTob s).marks = s.marks ∧ (State.evalTob s).ring = s.ring ∧
    (State.evalTob s).seq = s.seq ∧ (State.evalTob s).limits = s.limits ∧ (State.evalTob s).axes = s.axes ∧
    (State.evalTob s).env = s.env ∧ (State.evalTob s).masks = s.masks ∧ (State.evalTob s).faults = s.faults ∧
    (State.evalTob s).ctl = s.ctl ∧ (State.evalTob s).sup = s.sup ∧ (State.evalTob s).links = s.links ∧
    (State.evalTob s).resetLine = s.resetLine ∧ (State.evalTob s).free = s.free := by
  simp only [State.evalTob]; (repeat' split) <;> simp

@[simp] theorem State.engagementChanged_frame (s : State) :
    (State.engagementChanged s).pending = s.pending ∧ (State.engagementChanged s).profile = s.profile ∧
    (State.engagementChanged s).slurry = s.slurry ∧ (State.engagementChanged s).marks = s.marks ∧
    (State.engagementChanged s).ring = s.ring ∧ (State.engagementChanged s).seq = s.seq ∧
    (State.engagementChanged s).limits = s.limits ∧ (State.engagementChanged s).env = s.env ∧
    (State.engagementChanged s).masks = s.masks ∧ (State.engagementChanged s).faults = s.faults ∧
    (State.engagementChanged s).ctl = s.ctl ∧ (State.engagementChanged s).sup = s.sup ∧
    (State.engagementChanged s).links = s.links ∧ (State.engagementChanged s).resetLine = s.resetLine ∧
    (State.engagementChanged s).free = s.free := by
  simp only [State.engagementChanged]; (repeat' split) <;> simp

@[simp] theorem State.noteEngagement_frame (old : Kelly) (s : State) :
    (State.noteEngagement old s).pending = s.pending ∧ (State.noteEngagement old s).profile = s.profile ∧
    (State.noteEngagement old s).slurry = s.slurry ∧ (State.noteEngagement old s).marks = s.marks ∧
    (State.noteEngagement old s).ring = s.ring ∧ (State.noteEngagement old s).seq = s.seq ∧
    (State.noteEngagement old s).limits = s.limits ∧ (State.noteEngagement old s).env = s.env ∧
    (State.noteEngagement old s).masks = s.masks ∧ (State.noteEngagement old s).faults = s.faults ∧
    (State.noteEngagement old s).ctl = s.ctl ∧ (State.noteEngagement old s).sup = s.sup ∧
    (State.noteEngagement old s).links = s.links ∧ (State.noteEngagement old s).resetLine = s.resetLine ∧
    (State.noteEngagement old s).free = s.free := by
  simp only [State.noteEngagement]; (repeat' split) <;> simp

@[simp] theorem State.startSeatSettle_frame (s : State) :
    (State.startSeatSettle s).pending = s.pending ∧ (State.startSeatSettle s).profile = s.profile ∧
    (State.startSeatSettle s).slurry = s.slurry ∧ (State.startSeatSettle s).marks = s.marks ∧
    (State.startSeatSettle s).ring = s.ring ∧ (State.startSeatSettle s).seq = s.seq ∧
    (State.startSeatSettle s).limits = s.limits ∧ (State.startSeatSettle s).env = s.env ∧
    (State.startSeatSettle s).masks = s.masks ∧ (State.startSeatSettle s).faults = s.faults ∧
    (State.startSeatSettle s).ctl = s.ctl ∧ (State.startSeatSettle s).sup = s.sup ∧
    (State.startSeatSettle s).links = s.links ∧ (State.startSeatSettle s).resetLine = s.resetLine ∧
    (State.startSeatSettle s).free = s.free := by
  simp only [State.startSeatSettle]; (repeat' split) <;> simp

@[simp] theorem State.stopSeatSettle_frame (s : State) :
    (State.stopSeatSettle s).pending = s.pending ∧ (State.stopSeatSettle s).profile = s.profile ∧
    (State.stopSeatSettle s).slurry = s.slurry ∧ (State.stopSeatSettle s).marks = s.marks ∧
    (State.stopSeatSettle s).ring = s.ring ∧ (State.stopSeatSettle s).seq = s.seq ∧
    (State.stopSeatSettle s).limits = s.limits ∧ (State.stopSeatSettle s).env = s.env ∧
    (State.stopSeatSettle s).masks = s.masks ∧ (State.stopSeatSettle s).faults = s.faults ∧
    (State.stopSeatSettle s).ctl = s.ctl ∧ (State.stopSeatSettle s).sup = s.sup ∧
    (State.stopSeatSettle s).links = s.links ∧ (State.stopSeatSettle s).resetLine = s.resetLine ∧
    (State.stopSeatSettle s).free = s.free := by
  simp only [State.stopSeatSettle]; (repeat' split) <;> simp

@[simp] theorem State.withdrawModel_frame (s : State) :
    (State.withdrawModel s).pending = s.pending ∧ (State.withdrawModel s).profile = s.profile ∧
    (State.withdrawModel s).slurry = s.slurry ∧ (State.withdrawModel s).marks = s.marks ∧
    (State.withdrawModel s).ring = s.ring ∧ (State.withdrawModel s).seq = s.seq ∧
    (State.withdrawModel s).limits = s.limits ∧ (State.withdrawModel s).env = s.env ∧
    (State.withdrawModel s).masks = s.masks ∧ (State.withdrawModel s).faults = s.faults ∧
    (State.withdrawModel s).ctl = s.ctl ∧ (State.withdrawModel s).sup = s.sup ∧
    (State.withdrawModel s).links = s.links ∧ (State.withdrawModel s).resetLine = s.resetLine ∧
    (State.withdrawModel s).free = s.free := by
  simp only [State.withdrawModel]; (repeat' split) <;> simp

@[simp] theorem State.endRotation_frame (s : State) :
    (State.endRotation s).pending = s.pending ∧ (State.endRotation s).profile = s.profile ∧
    (State.endRotation s).slurry = s.slurry ∧ (State.endRotation s).marks = s.marks ∧
    (State.endRotation s).ring = s.ring ∧ (State.endRotation s).seq = s.seq ∧
    (State.endRotation s).limits = s.limits ∧ (State.endRotation s).axes = s.axes ∧
    (State.endRotation s).env = s.env ∧ (State.endRotation s).masks = s.masks ∧
    (State.endRotation s).faults = s.faults ∧ (State.endRotation s).ctl = s.ctl ∧ (State.endRotation s).sup = s.sup ∧
    (State.endRotation s).links = s.links ∧ (State.endRotation s).mail = s.mail ∧
    (State.endRotation s).resetLine = s.resetLine ∧ (State.endRotation s).free = s.free := by
  simp only [State.endRotation]; (repeat' split) <;> simp

@[simp] theorem State.setLines_frame (s : State) :
    (State.setLines s).pending = s.pending ∧ (State.setLines s).profile = s.profile ∧
    (State.setLines s).slurry = s.slurry ∧ (State.setLines s).kelly = s.kelly ∧ (State.setLines s).marks = s.marks ∧
    (State.setLines s).ring = s.ring ∧ (State.setLines s).seq = s.seq ∧ (State.setLines s).limits = s.limits ∧
    (State.setLines s).axes = s.axes ∧ (State.setLines s).env = s.env ∧ (State.setLines s).masks = s.masks ∧
    (State.setLines s).ctl = s.ctl ∧ (State.setLines s).sup = s.sup ∧ (State.setLines s).links = s.links ∧
    (State.setLines s).mail = s.mail ∧ (State.setLines s).resetLine = s.resetLine ∧
    (State.setLines s).free = s.free := by
  simp only [State.setLines]; (repeat' split) <;> simp

@[simp] theorem State.withdrawLatch_frame (new : UnitMode) (s : State) :
    (State.withdrawLatch new s).pending = s.pending ∧ (State.withdrawLatch new s).profile = s.profile ∧
    (State.withdrawLatch new s).slurry = s.slurry ∧ (State.withdrawLatch new s).kelly = s.kelly ∧
    (State.withdrawLatch new s).marks = s.marks ∧ (State.withdrawLatch new s).ring = s.ring ∧
    (State.withdrawLatch new s).seq = s.seq ∧ (State.withdrawLatch new s).limits = s.limits ∧
    (State.withdrawLatch new s).env = s.env ∧ (State.withdrawLatch new s).masks = s.masks ∧
    (State.withdrawLatch new s).faults = s.faults ∧ (State.withdrawLatch new s).sup = s.sup ∧
    (State.withdrawLatch new s).links = s.links ∧ (State.withdrawLatch new s).mail = s.mail ∧
    (State.withdrawLatch new s).resetLine = s.resetLine ∧ (State.withdrawLatch new s).free = s.free := by
  simp only [State.withdrawLatch]; (repeat' split) <;> simp

@[simp] theorem State.leaveParked_frame (new : UnitMode) (s : State) :
    (State.leaveParked new s).pending = s.pending ∧ (State.leaveParked new s).profile = s.profile ∧
    (State.leaveParked new s).slurry = s.slurry ∧ (State.leaveParked new s).kelly = s.kelly ∧
    (State.leaveParked new s).marks = s.marks ∧ (State.leaveParked new s).ring = s.ring ∧
    (State.leaveParked new s).seq = s.seq ∧ (State.leaveParked new s).limits = s.limits ∧
    (State.leaveParked new s).env = s.env ∧ (State.leaveParked new s).masks = s.masks ∧
    (State.leaveParked new s).faults = s.faults ∧ (State.leaveParked new s).sup = s.sup ∧
    (State.leaveParked new s).links = s.links ∧ (State.leaveParked new s).mail = s.mail ∧
    (State.leaveParked new s).resetLine = s.resetLine ∧ (State.leaveParked new s).free = s.free := by
  simp only [State.leaveParked]; (repeat' split) <;> simp

@[simp] theorem State.leaveConfig_frame (s : State) :
    (State.leaveConfig s).pending = s.pending ∧ (State.leaveConfig s).profile = s.profile ∧
    (State.leaveConfig s).slurry = s.slurry ∧ (State.leaveConfig s).kelly = s.kelly ∧
    (State.leaveConfig s).marks = s.marks ∧ (State.leaveConfig s).ring = s.ring ∧ (State.leaveConfig s).seq = s.seq ∧
    (State.leaveConfig s).limits = s.limits ∧ (State.leaveConfig s).env = s.env ∧
    (State.leaveConfig s).masks = s.masks ∧ (State.leaveConfig s).faults = s.faults ∧
    (State.leaveConfig s).ctl = s.ctl ∧ (State.leaveConfig s).sup = s.sup ∧ (State.leaveConfig s).links = s.links ∧
    (State.leaveConfig s).mail = s.mail ∧ (State.leaveConfig s).resetLine = s.resetLine ∧
    (State.leaveConfig s).free = s.free := by
  simp only [State.leaveConfig]; (repeat' split) <;> simp

@[simp] theorem State.changeMode_frame (new : UnitMode) (s : State) :
    (State.changeMode new s).pending = s.pending ∧ (State.changeMode new s).profile = s.profile ∧
    (State.changeMode new s).slurry = s.slurry ∧ (State.changeMode new s).marks = s.marks ∧
    (State.changeMode new s).ring = s.ring ∧ (State.changeMode new s).seq = s.seq ∧
    (State.changeMode new s).limits = s.limits ∧ (State.changeMode new s).env = s.env ∧
    (State.changeMode new s).masks = s.masks ∧ (State.changeMode new s).faults = s.faults ∧
    (State.changeMode new s).sup = s.sup ∧ (State.changeMode new s).resetLine = s.resetLine ∧
    (State.changeMode new s).free = s.free := by
  simp only [State.changeMode]; (repeat' split) <;> simp

@[simp] theorem State.chainLost_frame (s : State) :
    (State.chainLost s).pending = s.pending ∧ (State.chainLost s).profile = s.profile ∧
    (State.chainLost s).slurry = s.slurry ∧ (State.chainLost s).marks = s.marks ∧ (State.chainLost s).ring = s.ring ∧
    (State.chainLost s).seq = s.seq ∧ (State.chainLost s).limits = s.limits ∧ (State.chainLost s).env = s.env ∧
    (State.chainLost s).masks = s.masks ∧ (State.chainLost s).faults = s.faults ∧ (State.chainLost s).sup = s.sup ∧
    (State.chainLost s).resetLine = s.resetLine ∧ (State.chainLost s).free = s.free := by
  simp only [State.chainLost]; (repeat' split) <;> simp

@[simp] theorem State.chainLostByDecision_frame (s : State) :
    (State.chainLostByDecision s).pending = s.pending ∧ (State.chainLostByDecision s).profile = s.profile ∧
    (State.chainLostByDecision s).slurry = s.slurry ∧ (State.chainLostByDecision s).marks = s.marks ∧
    (State.chainLostByDecision s).ring = s.ring ∧ (State.chainLostByDecision s).seq = s.seq ∧
    (State.chainLostByDecision s).limits = s.limits ∧ (State.chainLostByDecision s).env = s.env ∧
    (State.chainLostByDecision s).masks = s.masks ∧ (State.chainLostByDecision s).faults = s.faults ∧
    (State.chainLostByDecision s).sup = s.sup ∧ (State.chainLostByDecision s).resetLine = s.resetLine ∧
    (State.chainLostByDecision s).free = s.free := by
  simp only [State.chainLostByDecision]; (repeat' split) <;> simp

@[simp] theorem State.parkDisturbed_frame (s : State) :
    (State.parkDisturbed s).pending = s.pending ∧ (State.parkDisturbed s).profile = s.profile ∧
    (State.parkDisturbed s).slurry = s.slurry ∧ (State.parkDisturbed s).marks = s.marks ∧
    (State.parkDisturbed s).ring = s.ring ∧ (State.parkDisturbed s).seq = s.seq ∧
    (State.parkDisturbed s).limits = s.limits ∧ (State.parkDisturbed s).env = s.env ∧
    (State.parkDisturbed s).masks = s.masks ∧ (State.parkDisturbed s).faults = s.faults ∧
    (State.parkDisturbed s).sup = s.sup ∧ (State.parkDisturbed s).resetLine = s.resetLine ∧
    (State.parkDisturbed s).free = s.free := by
  simp only [State.parkDisturbed]; (repeat' split) <;> simp

@[simp] theorem State.reseatFailed_frame (v : FaultVector) (s : State) :
    (State.reseatFailed v s).pending = s.pending ∧ (State.reseatFailed v s).profile = s.profile ∧
    (State.reseatFailed v s).slurry = s.slurry ∧ (State.reseatFailed v s).marks = s.marks ∧
    (State.reseatFailed v s).ring = s.ring ∧ (State.reseatFailed v s).seq = s.seq ∧
    (State.reseatFailed v s).limits = s.limits ∧ (State.reseatFailed v s).env = s.env ∧
    (State.reseatFailed v s).masks = s.masks ∧ (State.reseatFailed v s).faults = s.faults ∧
    (State.reseatFailed v s).sup = s.sup ∧ (State.reseatFailed v s).resetLine = s.resetLine ∧
    (State.reseatFailed v s).free = s.free := by
  simp only [State.reseatFailed]; (repeat' split) <;> simp

@[simp] theorem State.watchParkRope_frame (s : State) :
    (State.watchParkRope s).pending = s.pending ∧ (State.watchParkRope s).profile = s.profile ∧
    (State.watchParkRope s).slurry = s.slurry ∧ (State.watchParkRope s).marks = s.marks ∧
    (State.watchParkRope s).ring = s.ring ∧ (State.watchParkRope s).seq = s.seq ∧
    (State.watchParkRope s).limits = s.limits ∧ (State.watchParkRope s).env = s.env ∧
    (State.watchParkRope s).masks = s.masks ∧ (State.watchParkRope s).faults = s.faults ∧
    (State.watchParkRope s).sup = s.sup ∧ (State.watchParkRope s).resetLine = s.resetLine ∧
    (State.watchParkRope s).free = s.free := by
  simp only [State.watchParkRope]; (repeat' split) <;> simp

@[simp] theorem State.watchParkSled_frame (s : State) :
    (State.watchParkSled s).pending = s.pending ∧ (State.watchParkSled s).profile = s.profile ∧
    (State.watchParkSled s).slurry = s.slurry ∧ (State.watchParkSled s).marks = s.marks ∧
    (State.watchParkSled s).ring = s.ring ∧ (State.watchParkSled s).seq = s.seq ∧
    (State.watchParkSled s).limits = s.limits ∧ (State.watchParkSled s).env = s.env ∧
    (State.watchParkSled s).masks = s.masks ∧ (State.watchParkSled s).faults = s.faults ∧
    (State.watchParkSled s).sup = s.sup ∧ (State.watchParkSled s).resetLine = s.resetLine ∧
    (State.watchParkSled s).free = s.free := by
  simp only [State.watchParkSled]; (repeat' split) <;> simp

@[simp] theorem State.watchParkAngle_frame (s : State) :
    (State.watchParkAngle s).pending = s.pending ∧ (State.watchParkAngle s).profile = s.profile ∧
    (State.watchParkAngle s).slurry = s.slurry ∧ (State.watchParkAngle s).marks = s.marks ∧
    (State.watchParkAngle s).ring = s.ring ∧ (State.watchParkAngle s).seq = s.seq ∧
    (State.watchParkAngle s).limits = s.limits ∧ (State.watchParkAngle s).env = s.env ∧
    (State.watchParkAngle s).masks = s.masks ∧ (State.watchParkAngle s).faults = s.faults ∧
    (State.watchParkAngle s).sup = s.sup ∧ (State.watchParkAngle s).resetLine = s.resetLine ∧
    (State.watchParkAngle s).free = s.free := by
  simp only [State.watchParkAngle]; (repeat' split) <;> simp

@[simp] theorem State.testHoldIn_frame (s : State) :
    (State.testHoldIn s).pending = s.pending ∧ (State.testHoldIn s).profile = s.profile ∧
    (State.testHoldIn s).slurry = s.slurry ∧ (State.testHoldIn s).kelly = s.kelly ∧
    (State.testHoldIn s).marks = s.marks ∧ (State.testHoldIn s).ring = s.ring ∧ (State.testHoldIn s).seq = s.seq ∧
    (State.testHoldIn s).axes = s.axes ∧ (State.testHoldIn s).env = s.env ∧ (State.testHoldIn s).masks = s.masks ∧
    (State.testHoldIn s).faults = s.faults ∧ (State.testHoldIn s).ctl = s.ctl ∧ (State.testHoldIn s).sup = s.sup ∧
    (State.testHoldIn s).links = s.links ∧ (State.testHoldIn s).resetLine = s.resetLine ∧
    (State.testHoldIn s).free = s.free := by
  simp only [State.testHoldIn]; (repeat' split) <;> simp

@[simp] theorem State.recompute_frame (s : State) :
    (State.recompute s).pending = s.pending ∧ (State.recompute s).profile = s.profile ∧
    (State.recompute s).slurry = s.slurry ∧ (State.recompute s).kelly = s.kelly ∧
    (State.recompute s).marks = s.marks ∧ (State.recompute s).ring = s.ring ∧ (State.recompute s).seq = s.seq ∧
    (State.recompute s).axes = s.axes ∧ (State.recompute s).env = s.env ∧ (State.recompute s).masks = s.masks ∧
    (State.recompute s).faults = s.faults ∧ (State.recompute s).ctl = s.ctl ∧ (State.recompute s).sup = s.sup ∧
    (State.recompute s).links = s.links ∧ (State.recompute s).resetLine = s.resetLine ∧
    (State.recompute s).free = s.free := by
  simp only [State.recompute]; (repeat' split) <;> simp

@[simp] theorem State.endUnseat_frame (s : State) :
    (State.endUnseat s).pending = s.pending ∧ (State.endUnseat s).profile = s.profile ∧
    (State.endUnseat s).slurry = s.slurry ∧ (State.endUnseat s).kelly = s.kelly ∧
    (State.endUnseat s).marks = s.marks ∧ (State.endUnseat s).ring = s.ring ∧ (State.endUnseat s).seq = s.seq ∧
    (State.endUnseat s).axes = s.axes ∧ (State.endUnseat s).env = s.env ∧ (State.endUnseat s).masks = s.masks ∧
    (State.endUnseat s).faults = s.faults ∧ (State.endUnseat s).ctl = s.ctl ∧ (State.endUnseat s).sup = s.sup ∧
    (State.endUnseat s).links = s.links ∧ (State.endUnseat s).resetLine = s.resetLine ∧
    (State.endUnseat s).free = s.free := by
  simp only [State.endUnseat]; (repeat' split) <;> simp

@[simp] theorem State.withdrawDownforce_frame (s : State) :
    (State.withdrawDownforce s).pending = s.pending ∧ (State.withdrawDownforce s).profile = s.profile ∧
    (State.withdrawDownforce s).slurry = s.slurry ∧ (State.withdrawDownforce s).kelly = s.kelly ∧
    (State.withdrawDownforce s).marks = s.marks ∧ (State.withdrawDownforce s).ring = s.ring ∧
    (State.withdrawDownforce s).seq = s.seq ∧ (State.withdrawDownforce s).axes = s.axes ∧
    (State.withdrawDownforce s).env = s.env ∧ (State.withdrawDownforce s).masks = s.masks ∧
    (State.withdrawDownforce s).faults = s.faults ∧ (State.withdrawDownforce s).ctl = s.ctl ∧
    (State.withdrawDownforce s).sup = s.sup ∧ (State.withdrawDownforce s).links = s.links ∧
    (State.withdrawDownforce s).mail = s.mail ∧ (State.withdrawDownforce s).resetLine = s.resetLine ∧
    (State.withdrawDownforce s).free = s.free := by
  simp only [State.withdrawDownforce]; (repeat' split) <;> simp

@[simp] theorem State.handDownforce_frame (f : Int) (s : State) :
    (State.handDownforce f s).pending = s.pending ∧ (State.handDownforce f s).profile = s.profile ∧
    (State.handDownforce f s).slurry = s.slurry ∧ (State.handDownforce f s).kelly = s.kelly ∧
    (State.handDownforce f s).marks = s.marks ∧ (State.handDownforce f s).ring = s.ring ∧
    (State.handDownforce f s).seq = s.seq ∧ (State.handDownforce f s).axes = s.axes ∧
    (State.handDownforce f s).env = s.env ∧ (State.handDownforce f s).masks = s.masks ∧
    (State.handDownforce f s).faults = s.faults ∧ (State.handDownforce f s).ctl = s.ctl ∧
    (State.handDownforce f s).sup = s.sup ∧ (State.handDownforce f s).links = s.links ∧
    (State.handDownforce f s).mail = s.mail ∧ (State.handDownforce f s).resetLine = s.resetLine ∧
    (State.handDownforce f s).free = s.free := by
  simp only [State.handDownforce]; (repeat' split) <;> simp

@[simp] theorem State.ask_frame (hoist crowd rotary : PhaseReq) (s : State) :
    (State.ask hoist crowd rotary s).pending = s.pending ∧ (State.ask hoist crowd rotary s).profile = s.profile ∧
    (State.ask hoist crowd rotary s).slurry = s.slurry ∧ (State.ask hoist crowd rotary s).kelly = s.kelly ∧
    (State.ask hoist crowd rotary s).marks = s.marks ∧ (State.ask hoist crowd rotary s).ring = s.ring ∧
    (State.ask hoist crowd rotary s).seq = s.seq ∧ (State.ask hoist crowd rotary s).limits = s.limits ∧
    (State.ask hoist crowd rotary s).env = s.env ∧ (State.ask hoist crowd rotary s).masks = s.masks ∧
    (State.ask hoist crowd rotary s).faults = s.faults ∧ (State.ask hoist crowd rotary s).ctl = s.ctl ∧
    (State.ask hoist crowd rotary s).sup = s.sup ∧ (State.ask hoist crowd rotary s).links = s.links ∧
    (State.ask hoist crowd rotary s).mail = s.mail ∧ (State.ask hoist crowd rotary s).resetLine = s.resetLine ∧
    (State.ask hoist crowd rotary s).free = s.free := by
  simp only [State.ask]; (repeat' split) <;> simp

@[simp] theorem State.toPhase_frame (p : Phase) (s : State) :
    (State.toPhase p s).pending = s.pending ∧ (State.toPhase p s).profile = s.profile ∧
    (State.toPhase p s).slurry = s.slurry ∧ (State.toPhase p s).kelly = s.kelly ∧
    (State.toPhase p s).marks = s.marks ∧ (State.toPhase p s).ring = s.ring ∧ (State.toPhase p s).limits = s.limits ∧
    (State.toPhase p s).axes = s.axes ∧ (State.toPhase p s).env = s.env ∧ (State.toPhase p s).masks = s.masks ∧
    (State.toPhase p s).faults = s.faults ∧ (State.toPhase p s).ctl = s.ctl ∧ (State.toPhase p s).sup = s.sup ∧
    (State.toPhase p s).links = s.links ∧ (State.toPhase p s).mail = s.mail ∧
    (State.toPhase p s).resetLine = s.resetLine ∧ (State.toPhase p s).free = s.free := by
  simp only [State.toPhase]; (repeat' split) <;> simp

@[simp] theorem State.endBoreWatches_frame (s : State) :
    (State.endBoreWatches s).pending = s.pending ∧ (State.endBoreWatches s).profile = s.profile ∧
    (State.endBoreWatches s).slurry = s.slurry ∧ (State.endBoreWatches s).kelly = s.kelly ∧
    (State.endBoreWatches s).marks = s.marks ∧ (State.endBoreWatches s).ring = s.ring ∧
    (State.endBoreWatches s).seq = s.seq ∧ (State.endBoreWatches s).limits = s.limits ∧
    (State.endBoreWatches s).env = s.env ∧ (State.endBoreWatches s).masks = s.masks ∧
    (State.endBoreWatches s).faults = s.faults ∧ (State.endBoreWatches s).ctl = s.ctl ∧
    (State.endBoreWatches s).sup = s.sup ∧ (State.endBoreWatches s).links = s.links ∧
    (State.endBoreWatches s).mail = s.mail ∧ (State.endBoreWatches s).resetLine = s.resetLine ∧
    (State.endBoreWatches s).free = s.free := by
  simp only [State.endBoreWatches]; (repeat' split) <;> simp

@[simp] theorem State.closeStroke_frame (s : State) :
    (State.closeStroke s).pending = s.pending ∧ (State.closeStroke s).profile = s.profile ∧
    (State.closeStroke s).slurry = s.slurry ∧ (State.closeStroke s).kelly = s.kelly ∧
    (State.closeStroke s).marks = s.marks ∧ (State.closeStroke s).ring = s.ring ∧
    (State.closeStroke s).limits = s.limits ∧ (State.closeStroke s).env = s.env ∧
    (State.closeStroke s).masks = s.masks ∧ (State.closeStroke s).faults = s.faults ∧
    (State.closeStroke s).ctl = s.ctl ∧ (State.closeStroke s).sup = s.sup ∧ (State.closeStroke s).links = s.links ∧
    (State.closeStroke s).mail = s.mail ∧ (State.closeStroke s).resetLine = s.resetLine ∧
    (State.closeStroke s).free = s.free := by
  simp only [State.closeStroke]; (repeat' split) <;> simp

@[simp] theorem State.stopStroke_frame (s : State) :
    (State.stopStroke s).pending = s.pending ∧ (State.stopStroke s).profile = s.profile ∧
    (State.stopStroke s).slurry = s.slurry ∧ (State.stopStroke s).kelly = s.kelly ∧
    (State.stopStroke s).marks = s.marks ∧ (State.stopStroke s).ring = s.ring ∧ (State.stopStroke s).seq = s.seq ∧
    (State.stopStroke s).limits = s.limits ∧ (State.stopStroke s).env = s.env ∧ (State.stopStroke s).masks = s.masks ∧
    (State.stopStroke s).faults = s.faults ∧ (State.stopStroke s).ctl = s.ctl ∧ (State.stopStroke s).sup = s.sup ∧
    (State.stopStroke s).links = s.links ∧ (State.stopStroke s).mail = s.mail ∧
    (State.stopStroke s).resetLine = s.resetLine ∧ (State.stopStroke s).free = s.free := by
  simp only [State.stopStroke]; (repeat' split) <;> simp

@[simp] theorem State.testShort_frame (w : LimitSet) (s : State) :
    (State.testShort w s).pending = s.pending ∧ (State.testShort w s).profile = s.profile ∧
    (State.testShort w s).slurry = s.slurry ∧ (State.testShort w s).kelly = s.kelly ∧
    (State.testShort w s).marks = s.marks ∧ (State.testShort w s).ring = s.ring ∧
    (State.testShort w s).limits = s.limits ∧ (State.testShort w s).axes = s.axes ∧
    (State.testShort w s).env = s.env ∧ (State.testShort w s).masks = s.masks ∧
    (State.testShort w s).faults = s.faults ∧ (State.testShort w s).ctl = s.ctl ∧ (State.testShort w s).sup = s.sup ∧
    (State.testShort w s).links = s.links ∧ (State.testShort w s).mail = s.mail ∧
    (State.testShort w s).resetLine = s.resetLine ∧ (State.testShort w s).free = s.free := by
  simp only [State.testShort]; (repeat' split) <;> simp

@[simp] theorem State.beginRampDown_frame (s : State) :
    (State.beginRampDown s).pending = s.pending ∧ (State.beginRampDown s).profile = s.profile ∧
    (State.beginRampDown s).slurry = s.slurry ∧ (State.beginRampDown s).kelly = s.kelly ∧
    (State.beginRampDown s).marks = s.marks ∧ (State.beginRampDown s).ring = s.ring ∧
    (State.beginRampDown s).env = s.env ∧ (State.beginRampDown s).masks = s.masks ∧
    (State.beginRampDown s).faults = s.faults ∧ (State.beginRampDown s).ctl = s.ctl ∧
    (State.beginRampDown s).sup = s.sup ∧ (State.beginRampDown s).links = s.links ∧
    (State.beginRampDown s).mail = s.mail ∧ (State.beginRampDown s).resetLine = s.resetLine ∧
    (State.beginRampDown s).free = s.free := by
  simp only [State.beginRampDown]; (repeat' split) <;> simp

@[simp] theorem State.endMotion_frame (o : Outcome) (r : Option Reason) (s : State) :
    (State.endMotion o r s).pending = s.pending ∧ (State.endMotion o r s).profile = s.profile ∧
    (State.endMotion o r s).slurry = s.slurry ∧ (State.endMotion o r s).kelly = s.kelly ∧
    (State.endMotion o r s).marks = s.marks ∧ (State.endMotion o r s).ring = s.ring ∧
    (State.endMotion o r s).env = s.env ∧ (State.endMotion o r s).masks = s.masks ∧
    (State.endMotion o r s).faults = s.faults ∧ (State.endMotion o r s).ctl = s.ctl ∧
    (State.endMotion o r s).sup = s.sup ∧ (State.endMotion o r s).links = s.links ∧
    (State.endMotion o r s).mail = s.mail ∧ (State.endMotion o r s).resetLine = s.resetLine ∧
    (State.endMotion o r s).free = s.free := by
  simp only [State.endMotion, State.boundary]; (repeat' split) <;> simp

@[simp] theorem State.beginRampUp_frame (s : State) :
    (State.beginRampUp s).pending = s.pending ∧ (State.beginRampUp s).profile = s.profile ∧
    (State.beginRampUp s).slurry = s.slurry ∧ (State.beginRampUp s).kelly = s.kelly ∧
    (State.beginRampUp s).marks = s.marks ∧ (State.beginRampUp s).ring = s.ring ∧ (State.beginRampUp s).env = s.env ∧
    (State.beginRampUp s).masks = s.masks ∧ (State.beginRampUp s).faults = s.faults ∧
    (State.beginRampUp s).ctl = s.ctl ∧ (State.beginRampUp s).sup = s.sup ∧ (State.beginRampUp s).links = s.links ∧
    (State.beginRampUp s).mail = s.mail ∧ (State.beginRampUp s).resetLine = s.resetLine ∧
    (State.beginRampUp s).free = s.free := by
  simp only [State.beginRampUp]; (repeat' split) <;> simp

@[simp] theorem State.beginAdvance_frame (s : State) :
    (State.beginAdvance s).pending = s.pending ∧ (State.beginAdvance s).profile = s.profile ∧
    (State.beginAdvance s).slurry = s.slurry ∧ (State.beginAdvance s).kelly = s.kelly ∧
    (State.beginAdvance s).marks = s.marks ∧ (State.beginAdvance s).ring = s.ring ∧
    (State.beginAdvance s).limits = s.limits ∧ (State.beginAdvance s).env = s.env ∧
    (State.beginAdvance s).masks = s.masks ∧ (State.beginAdvance s).faults = s.faults ∧
    (State.beginAdvance s).ctl = s.ctl ∧ (State.beginAdvance s).sup = s.sup ∧ (State.beginAdvance s).links = s.links ∧
    (State.beginAdvance s).mail = s.mail ∧ (State.beginAdvance s).resetLine = s.resetLine ∧
    (State.beginAdvance s).free = s.free := by
  simp only [State.beginAdvance]; (repeat' split) <;> simp

@[simp] theorem State.beginTurn_frame (cw : Bool) (s : State) :
    (State.beginTurn cw s).pending = s.pending ∧ (State.beginTurn cw s).profile = s.profile ∧
    (State.beginTurn cw s).slurry = s.slurry ∧ (State.beginTurn cw s).kelly = s.kelly ∧
    (State.beginTurn cw s).marks = s.marks ∧ (State.beginTurn cw s).ring = s.ring ∧
    (State.beginTurn cw s).limits = s.limits ∧ (State.beginTurn cw s).env = s.env ∧
    (State.beginTurn cw s).masks = s.masks ∧ (State.beginTurn cw s).faults = s.faults ∧
    (State.beginTurn cw s).ctl = s.ctl ∧ (State.beginTurn cw s).sup = s.sup ∧ (State.beginTurn cw s).links = s.links ∧
    (State.beginTurn cw s).mail = s.mail ∧ (State.beginTurn cw s).resetLine = s.resetLine ∧
    (State.beginTurn cw s).free = s.free := by
  simp only [State.beginTurn]; (repeat' split) <;> simp

@[simp] theorem State.beginSpin_frame (s : State) :
    (State.beginSpin s).pending = s.pending ∧ (State.beginSpin s).profile = s.profile ∧
    (State.beginSpin s).slurry = s.slurry ∧ (State.beginSpin s).kelly = s.kelly ∧
    (State.beginSpin s).marks = s.marks ∧ (State.beginSpin s).ring = s.ring ∧ (State.beginSpin s).limits = s.limits ∧
    (State.beginSpin s).env = s.env ∧ (State.beginSpin s).masks = s.masks ∧ (State.beginSpin s).faults = s.faults ∧
    (State.beginSpin s).ctl = s.ctl ∧ (State.beginSpin s).sup = s.sup ∧ (State.beginSpin s).links = s.links ∧
    (State.beginSpin s).mail = s.mail ∧ (State.beginSpin s).resetLine = s.resetLine ∧
    (State.beginSpin s).free = s.free := by
  simp only [State.beginSpin]; (repeat' split) <;> simp

@[simp] theorem State.beginAfterGear_frame (s : State) :
    (State.beginAfterGear s).pending = s.pending ∧ (State.beginAfterGear s).profile = s.profile ∧
    (State.beginAfterGear s).slurry = s.slurry ∧ (State.beginAfterGear s).kelly = s.kelly ∧
    (State.beginAfterGear s).marks = s.marks ∧ (State.beginAfterGear s).ring = s.ring ∧
    (State.beginAfterGear s).env = s.env ∧ (State.beginAfterGear s).masks = s.masks ∧
    (State.beginAfterGear s).faults = s.faults ∧ (State.beginAfterGear s).ctl = s.ctl ∧
    (State.beginAfterGear s).sup = s.sup ∧ (State.beginAfterGear s).links = s.links ∧
    (State.beginAfterGear s).mail = s.mail ∧ (State.beginAfterGear s).resetLine = s.resetLine ∧
    (State.beginAfterGear s).free = s.free := by
  simp only [State.beginAfterGear]; (repeat' split) <;> simp

@[simp] theorem State.beginGear_frame (o : Order) (s : State) :
    (State.beginGear o s).pending = s.pending ∧ (State.beginGear o s).profile = s.profile ∧
    (State.beginGear o s).slurry = s.slurry ∧ (State.beginGear o s).kelly = s.kelly ∧
    (State.beginGear o s).marks = s.marks ∧ (State.beginGear o s).ring = s.ring ∧
    (State.beginGear o s).limits = s.limits ∧ (State.beginGear o s).env = s.env ∧
    (State.beginGear o s).masks = s.masks ∧ (State.beginGear o s).faults = s.faults ∧
    (State.beginGear o s).ctl = s.ctl ∧ (State.beginGear o s).sup = s.sup ∧ (State.beginGear o s).links = s.links ∧
    (State.beginGear o s).mail = s.mail ∧ (State.beginGear o s).resetLine = s.resetLine ∧
    (State.beginGear o s).free = s.free := by
  simp only [State.beginGear]; (repeat' split) <;> simp

@[simp] theorem State.beginAttempt_frame (n : Nat) (origin : Option Int) (s : State) :
    (State.beginAttempt n origin s).pending = s.pending ∧ (State.beginAttempt n origin s).profile = s.profile ∧
    (State.beginAttempt n origin s).slurry = s.slurry ∧ (State.beginAttempt n origin s).marks = s.marks ∧
    (State.beginAttempt n origin s).ring = s.ring ∧ (State.beginAttempt n origin s).limits = s.limits ∧
    (State.beginAttempt n origin s).env = s.env ∧ (State.beginAttempt n origin s).masks = s.masks ∧
    (State.beginAttempt n origin s).faults = s.faults ∧ (State.beginAttempt n origin s).ctl = s.ctl ∧
    (State.beginAttempt n origin s).sup = s.sup ∧ (State.beginAttempt n origin s).links = s.links ∧
    (State.beginAttempt n origin s).resetLine = s.resetLine ∧ (State.beginAttempt n origin s).free = s.free := by
  simp only [State.beginAttempt]; (repeat' split) <;> simp

@[simp] theorem State.beginSeating_frame (s : State) :
    (State.beginSeating s).pending = s.pending ∧ (State.beginSeating s).profile = s.profile ∧
    (State.beginSeating s).slurry = s.slurry ∧ (State.beginSeating s).marks = s.marks ∧
    (State.beginSeating s).ring = s.ring ∧ (State.beginSeating s).limits = s.limits ∧
    (State.beginSeating s).env = s.env ∧ (State.beginSeating s).masks = s.masks ∧
    (State.beginSeating s).faults = s.faults ∧ (State.beginSeating s).ctl = s.ctl ∧
    (State.beginSeating s).sup = s.sup ∧ (State.beginSeating s).links = s.links ∧
    (State.beginSeating s).resetLine = s.resetLine ∧ (State.beginSeating s).free = s.free := by
  simp only [State.beginSeating]; (repeat' split) <;> simp

@[simp] theorem State.beginUnseating_frame (s : State) :
    (State.beginUnseating s).pending = s.pending ∧ (State.beginUnseating s).profile = s.profile ∧
    (State.beginUnseating s).slurry = s.slurry ∧ (State.beginUnseating s).marks = s.marks ∧
    (State.beginUnseating s).ring = s.ring ∧ (State.beginUnseating s).limits = s.limits ∧
    (State.beginUnseating s).env = s.env ∧ (State.beginUnseating s).masks = s.masks ∧
    (State.beginUnseating s).faults = s.faults ∧ (State.beginUnseating s).ctl = s.ctl ∧
    (State.beginUnseating s).sup = s.sup ∧ (State.beginUnseating s).links = s.links ∧
    (State.beginUnseating s).resetLine = s.resetLine ∧ (State.beginUnseating s).free = s.free := by
  simp only [State.beginUnseating]; (repeat' split) <;> simp

@[simp] theorem State.onRotation_frame (f : Rotation → Rotation) (s : State) :
    (State.onRotation f s).pending = s.pending ∧ (State.onRotation f s).profile = s.profile ∧
    (State.onRotation f s).slurry = s.slurry ∧ (State.onRotation f s).marks = s.marks ∧
    (State.onRotation f s).ring = s.ring ∧ (State.onRotation f s).seq = s.seq ∧
    (State.onRotation f s).limits = s.limits ∧ (State.onRotation f s).axes = s.axes ∧
    (State.onRotation f s).env = s.env ∧ (State.onRotation f s).masks = s.masks ∧
    (State.onRotation f s).faults = s.faults ∧ (State.onRotation f s).ctl = s.ctl ∧
    (State.onRotation f s).sup = s.sup ∧ (State.onRotation f s).links = s.links ∧
    (State.onRotation f s).mail = s.mail ∧ (State.onRotation f s).resetLine = s.resetLine ∧
    (State.onRotation f s).free = s.free := by
  simp only [State.onRotation]; (repeat' split) <;> simp

@[simp] theorem State.creepBack_frame (sense : Sense) (s : State) :
    (State.creepBack sense s).pending = s.pending ∧ (State.creepBack sense s).profile = s.profile ∧
    (State.creepBack sense s).slurry = s.slurry ∧ (State.creepBack sense s).marks = s.marks ∧
    (State.creepBack sense s).ring = s.ring ∧ (State.creepBack sense s).limits = s.limits ∧
    (State.creepBack sense s).env = s.env ∧ (State.creepBack sense s).masks = s.masks ∧
    (State.creepBack sense s).faults = s.faults ∧ (State.creepBack sense s).ctl = s.ctl ∧
    (State.creepBack sense s).sup = s.sup ∧ (State.creepBack sense s).links = s.links ∧
    (State.creepBack sense s).mail = s.mail ∧ (State.creepBack sense s).resetLine = s.resetLine ∧
    (State.creepBack sense s).free = s.free := by
  simp only [State.creepBack]; (repeat' split) <;> simp

@[simp] theorem State.releaseSeating_frame (s : State) :
    (State.releaseSeating s).pending = s.pending ∧ (State.releaseSeating s).profile = s.profile ∧
    (State.releaseSeating s).slurry = s.slurry ∧ (State.releaseSeating s).marks = s.marks ∧
    (State.releaseSeating s).ring = s.ring ∧ (State.releaseSeating s).seq = s.seq ∧
    (State.releaseSeating s).limits = s.limits ∧ (State.releaseSeating s).env = s.env ∧
    (State.releaseSeating s).masks = s.masks ∧ (State.releaseSeating s).faults = s.faults ∧
    (State.releaseSeating s).ctl = s.ctl ∧ (State.releaseSeating s).sup = s.sup ∧
    (State.releaseSeating s).links = s.links ∧ (State.releaseSeating s).resetLine = s.resetLine ∧
    (State.releaseSeating s).free = s.free := by
  simp only [State.releaseSeating]; (repeat' split) <;> simp

@[simp] theorem State.reEngage_frame (s : State) :
    (State.reEngage s).pending = s.pending ∧ (State.reEngage s).profile = s.profile ∧
    (State.reEngage s).slurry = s.slurry ∧ (State.reEngage s).marks = s.marks ∧ (State.reEngage s).ring = s.ring ∧
    (State.reEngage s).seq = s.seq ∧ (State.reEngage s).limits = s.limits ∧ (State.reEngage s).env = s.env ∧
    (State.reEngage s).masks = s.masks ∧ (State.reEngage s).faults = s.faults ∧ (State.reEngage s).ctl = s.ctl ∧
    (State.reEngage s).sup = s.sup ∧ (State.reEngage s).links = s.links ∧ (State.reEngage s).resetLine = s.resetLine ∧
    (State.reEngage s).free = s.free := by
  simp only [State.reEngage]; (repeat' split) <;> simp

@[simp] theorem State.endSeatBack_frame (r : Rotation) (s : State) :
    (State.endSeatBack r s).pending = s.pending ∧ (State.endSeatBack r s).profile = s.profile ∧
    (State.endSeatBack r s).slurry = s.slurry ∧ (State.endSeatBack r s).marks = s.marks ∧
    (State.endSeatBack r s).ring = s.ring ∧ (State.endSeatBack r s).limits = s.limits ∧
    (State.endSeatBack r s).env = s.env ∧ (State.endSeatBack r s).masks = s.masks ∧
    (State.endSeatBack r s).faults = s.faults ∧ (State.endSeatBack r s).ctl = s.ctl ∧
    (State.endSeatBack r s).sup = s.sup ∧ (State.endSeatBack r s).links = s.links ∧
    (State.endSeatBack r s).resetLine = s.resetLine ∧ (State.endSeatBack r s).free = s.free := by
  simp only [State.endSeatBack, State.boundary]; (repeat' split) <;> simp

@[simp] theorem State.endUnseatBack_frame (r : Rotation) (s : State) :
    (State.endUnseatBack r s).pending = s.pending ∧ (State.endUnseatBack r s).profile = s.profile ∧
    (State.endUnseatBack r s).slurry = s.slurry ∧ (State.endUnseatBack r s).marks = s.marks ∧
    (State.endUnseatBack r s).ring = s.ring ∧ (State.endUnseatBack r s).limits = s.limits ∧
    (State.endUnseatBack r s).env = s.env ∧ (State.endUnseatBack r s).masks = s.masks ∧
    (State.endUnseatBack r s).faults = s.faults ∧ (State.endUnseatBack r s).ctl = s.ctl ∧
    (State.endUnseatBack r s).sup = s.sup ∧ (State.endUnseatBack r s).links = s.links ∧
    (State.endUnseatBack r s).resetLine = s.resetLine ∧ (State.endUnseatBack r s).free = s.free := by
  simp only [State.endUnseatBack]; (repeat' split) <;> simp

@[simp] theorem State.confirmSeat_frame (s : State) :
    (State.confirmSeat s).pending = s.pending ∧ (State.confirmSeat s).profile = s.profile ∧
    (State.confirmSeat s).slurry = s.slurry ∧ (State.confirmSeat s).marks = s.marks ∧
    (State.confirmSeat s).ring = s.ring ∧ (State.confirmSeat s).seq = s.seq ∧
    (State.confirmSeat s).limits = s.limits ∧ (State.confirmSeat s).env = s.env ∧
    (State.confirmSeat s).masks = s.masks ∧ (State.confirmSeat s).faults = s.faults ∧
    (State.confirmSeat s).ctl = s.ctl ∧ (State.confirmSeat s).sup = s.sup ∧ (State.confirmSeat s).links = s.links ∧
    (State.confirmSeat s).resetLine = s.resetLine ∧ (State.confirmSeat s).free = s.free := by
  simp only [State.confirmSeat]; (repeat' split) <;> simp

@[simp] theorem State.confirmUnseat_frame (s : State) :
    (State.confirmUnseat s).pending = s.pending ∧ (State.confirmUnseat s).profile = s.profile ∧
    (State.confirmUnseat s).slurry = s.slurry ∧ (State.confirmUnseat s).marks = s.marks ∧
    (State.confirmUnseat s).ring = s.ring ∧ (State.confirmUnseat s).limits = s.limits ∧
    (State.confirmUnseat s).env = s.env ∧ (State.confirmUnseat s).masks = s.masks ∧
    (State.confirmUnseat s).faults = s.faults ∧ (State.confirmUnseat s).ctl = s.ctl ∧
    (State.confirmUnseat s).sup = s.sup ∧ (State.confirmUnseat s).links = s.links ∧
    (State.confirmUnseat s).resetLine = s.resetLine ∧ (State.confirmUnseat s).free = s.free := by
  simp only [State.confirmUnseat]; (repeat' split) <;> simp

@[simp] theorem State.rotationTorque_frame (s : State) :
    (State.rotationTorque s).pending = s.pending ∧ (State.rotationTorque s).profile = s.profile ∧
    (State.rotationTorque s).slurry = s.slurry ∧ (State.rotationTorque s).marks = s.marks ∧
    (State.rotationTorque s).ring = s.ring ∧ (State.rotationTorque s).limits = s.limits ∧
    (State.rotationTorque s).env = s.env ∧ (State.rotationTorque s).masks = s.masks ∧
    (State.rotationTorque s).faults = s.faults ∧ (State.rotationTorque s).ctl = s.ctl ∧
    (State.rotationTorque s).sup = s.sup ∧ (State.rotationTorque s).links = s.links ∧
    (State.rotationTorque s).resetLine = s.resetLine ∧ (State.rotationTorque s).free = s.free := by
  simp only [State.rotationTorque]; (repeat' split) <;> simp

@[simp] theorem State.rotationAngle_frame (s : State) :
    (State.rotationAngle s).pending = s.pending ∧ (State.rotationAngle s).profile = s.profile ∧
    (State.rotationAngle s).slurry = s.slurry ∧ (State.rotationAngle s).marks = s.marks ∧
    (State.rotationAngle s).ring = s.ring ∧ (State.rotationAngle s).limits = s.limits ∧
    (State.rotationAngle s).env = s.env ∧ (State.rotationAngle s).masks = s.masks ∧
    (State.rotationAngle s).faults = s.faults ∧ (State.rotationAngle s).ctl = s.ctl ∧
    (State.rotationAngle s).sup = s.sup ∧ (State.rotationAngle s).links = s.links ∧
    (State.rotationAngle s).resetLine = s.resetLine ∧ (State.rotationAngle s).free = s.free := by
  simp only [State.rotationAngle]; (repeat' split) <;> simp

@[simp] theorem State.decideRotation_frame (r : Rotation) (s : State) :
    (State.decideRotation r s).pending = s.pending ∧ (State.decideRotation r s).profile = s.profile ∧
    (State.decideRotation r s).slurry = s.slurry ∧ (State.decideRotation r s).marks = s.marks ∧
    (State.decideRotation r s).ring = s.ring ∧ (State.decideRotation r s).seq = s.seq ∧
    (State.decideRotation r s).limits = s.limits ∧ (State.decideRotation r s).env = s.env ∧
    (State.decideRotation r s).masks = s.masks ∧ (State.decideRotation r s).faults = s.faults ∧
    (State.decideRotation r s).sup = s.sup ∧ (State.decideRotation r s).resetLine = s.resetLine ∧
    (State.decideRotation r s).free = s.free := by
  simp only [State.decideRotation]; (repeat' split) <;> simp

@[simp] theorem State.progressRotation_frame (s : State) :
    (State.progressRotation s).pending = s.pending ∧ (State.progressRotation s).profile = s.profile ∧
    (State.progressRotation s).slurry = s.slurry ∧ (State.progressRotation s).marks = s.marks ∧
    (State.progressRotation s).ring = s.ring ∧ (State.progressRotation s).limits = s.limits ∧
    (State.progressRotation s).env = s.env ∧ (State.progressRotation s).masks = s.masks ∧
    (State.progressRotation s).faults = s.faults ∧ (State.progressRotation s).sup = s.sup ∧
    (State.progressRotation s).resetLine = s.resetLine ∧ (State.progressRotation s).free = s.free := by
  simp only [State.progressRotation]; (repeat' split) <;> simp

@[simp] theorem State.progressReseat_frame (s : State) :
    (State.progressReseat s).pending = s.pending ∧ (State.progressReseat s).profile = s.profile ∧
    (State.progressReseat s).slurry = s.slurry ∧ (State.progressReseat s).marks = s.marks ∧
    (State.progressReseat s).ring = s.ring ∧ (State.progressReseat s).seq = s.seq ∧
    (State.progressReseat s).limits = s.limits ∧ (State.progressReseat s).env = s.env ∧
    (State.progressReseat s).masks = s.masks ∧ (State.progressReseat s).faults = s.faults ∧
    (State.progressReseat s).sup = s.sup ∧ (State.progressReseat s).resetLine = s.resetLine ∧
    (State.progressReseat s).free = s.free := by
  simp only [State.progressReseat]; (repeat' split) <;> simp

@[simp] theorem State.progressRelief_frame (s : State) :
    (State.progressRelief s).pending = s.pending ∧ (State.progressRelief s).profile = s.profile ∧
    (State.progressRelief s).slurry = s.slurry ∧ (State.progressRelief s).kelly = s.kelly ∧
    (State.progressRelief s).marks = s.marks ∧ (State.progressRelief s).ring = s.ring ∧
    (State.progressRelief s).seq = s.seq ∧ (State.progressRelief s).limits = s.limits ∧
    (State.progressRelief s).env = s.env ∧ (State.progressRelief s).masks = s.masks ∧
    (State.progressRelief s).faults = s.faults ∧ (State.progressRelief s).ctl = s.ctl ∧
    (State.progressRelief s).sup = s.sup ∧ (State.progressRelief s).links = s.links ∧
    (State.progressRelief s).mail = s.mail ∧ (State.progressRelief s).resetLine = s.resetLine ∧
    (State.progressRelief s).free = s.free := by
  simp only [State.progressRelief]; (repeat' split) <;> simp

@[simp] theorem State.beginSurvey_frame (s : State) :
    (State.beginSurvey s).pending = s.pending ∧ (State.beginSurvey s).profile = s.profile ∧
    (State.beginSurvey s).slurry = s.slurry ∧ (State.beginSurvey s).marks = s.marks ∧
    (State.beginSurvey s).ring = s.ring ∧ (State.beginSurvey s).env = s.env ∧ (State.beginSurvey s).masks = s.masks ∧
    (State.beginSurvey s).faults = s.faults ∧ (State.beginSurvey s).sup = s.sup ∧
    (State.beginSurvey s).resetLine = s.resetLine ∧ (State.beginSurvey s).free = s.free := by
  simp only [State.beginSurvey]; (repeat' split) <;> simp

@[simp] theorem State.beginRaise_frame (s : State) :
    (State.beginRaise s).pending = s.pending ∧ (State.beginRaise s).profile = s.profile ∧
    (State.beginRaise s).slurry = s.slurry ∧ (State.beginRaise s).kelly = s.kelly ∧
    (State.beginRaise s).marks = s.marks ∧ (State.beginRaise s).ring = s.ring ∧
    (State.beginRaise s).limits = s.limits ∧ (State.beginRaise s).env = s.env ∧ (State.beginRaise s).masks = s.masks ∧
    (State.beginRaise s).faults = s.faults ∧ (State.beginRaise s).ctl = s.ctl ∧ (State.beginRaise s).sup = s.sup ∧
    (State.beginRaise s).links = s.links ∧ (State.beginRaise s).mail = s.mail ∧
    (State.beginRaise s).resetLine = s.resetLine ∧ (State.beginRaise s).free = s.free := by
  simp only [State.beginRaise]; (repeat' split) <;> simp

@[simp] theorem State.parkDone_frame (s : State) :
    (State.parkDone s).pending = s.pending ∧ (State.parkDone s).profile = s.profile ∧
    (State.parkDone s).slurry = s.slurry ∧ (State.parkDone s).kelly = s.kelly ∧ (State.parkDone s).marks = s.marks ∧
    (State.parkDone s).ring = s.ring ∧ (State.parkDone s).limits = s.limits ∧ (State.parkDone s).env = s.env ∧
    (State.parkDone s).masks = s.masks ∧ (State.parkDone s).faults = s.faults ∧ (State.parkDone s).ctl = s.ctl ∧
    (State.parkDone s).sup = s.sup ∧ (State.parkDone s).links = s.links ∧ (State.parkDone s).mail = s.mail ∧
    (State.parkDone s).resetLine = s.resetLine ∧ (State.parkDone s).free = s.free := by
  simp only [State.parkDone]; (repeat' split) <;> simp

@[simp] theorem State.beginReleaseDwell_frame (s : State) :
    (State.beginReleaseDwell s).pending = s.pending ∧ (State.beginReleaseDwell s).profile = s.profile ∧
    (State.beginReleaseDwell s).slurry = s.slurry ∧ (State.beginReleaseDwell s).kelly = s.kelly ∧
    (State.beginReleaseDwell s).marks = s.marks ∧ (State.beginReleaseDwell s).ring = s.ring ∧
    (State.beginReleaseDwell s).limits = s.limits ∧ (State.beginReleaseDwell s).env = s.env ∧
    (State.beginReleaseDwell s).masks = s.masks ∧ (State.beginReleaseDwell s).faults = s.faults ∧
    (State.beginReleaseDwell s).ctl = s.ctl ∧ (State.beginReleaseDwell s).sup = s.sup ∧
    (State.beginReleaseDwell s).links = s.links ∧ (State.beginReleaseDwell s).mail = s.mail ∧
    (State.beginReleaseDwell s).resetLine = s.resetLine ∧ (State.beginReleaseDwell s).free = s.free := by
  simp only [State.beginReleaseDwell]; (repeat' split) <;> simp

@[simp] theorem State.endRampDown_frame (t : Stroke) (s : State) :
    (State.endRampDown t s).pending = s.pending ∧ (State.endRampDown t s).profile = s.profile ∧
    (State.endRampDown t s).slurry = s.slurry ∧ (State.endRampDown t s).kelly = s.kelly ∧
    (State.endRampDown t s).marks = s.marks ∧ (State.endRampDown t s).ring = s.ring ∧
    (State.endRampDown t s).limits = s.limits ∧ (State.endRampDown t s).env = s.env ∧
    (State.endRampDown t s).masks = s.masks ∧ (State.endRampDown t s).faults = s.faults ∧
    (State.endRampDown t s).ctl = s.ctl ∧ (State.endRampDown t s).sup = s.sup ∧
    (State.endRampDown t s).links = s.links ∧ (State.endRampDown t s).mail = s.mail ∧
    (State.endRampDown t s).resetLine = s.resetLine ∧ (State.endRampDown t s).free = s.free := by
  simp only [State.endRampDown, State.boundary]; (repeat' split) <;> simp

@[simp] theorem State.endTurn_frame (t : Stroke) (s : State) :
    (State.endTurn t s).pending = s.pending ∧ (State.endTurn t s).profile = s.profile ∧
    (State.endTurn t s).slurry = s.slurry ∧ (State.endTurn t s).kelly = s.kelly ∧
    (State.endTurn t s).marks = s.marks ∧ (State.endTurn t s).ring = s.ring ∧ (State.endTurn t s).limits = s.limits ∧
    (State.endTurn t s).env = s.env ∧ (State.endTurn t s).masks = s.masks ∧ (State.endTurn t s).faults = s.faults ∧
    (State.endTurn t s).ctl = s.ctl ∧ (State.endTurn t s).sup = s.sup ∧ (State.endTurn t s).links = s.links ∧
    (State.endTurn t s).mail = s.mail ∧ (State.endTurn t s).resetLine = s.resetLine ∧
    (State.endTurn t s).free = s.free := by
  simp only [State.endTurn, State.boundary]; (repeat' split) <;> simp

@[simp] theorem State.setDebt_frame (acc debt : Int) (s : State) :
    (State.setDebt acc debt s).pending = s.pending ∧ (State.setDebt acc debt s).profile = s.profile ∧
    (State.setDebt acc debt s).slurry = s.slurry ∧ (State.setDebt acc debt s).marks = s.marks ∧
    (State.setDebt acc debt s).ring = s.ring ∧ (State.setDebt acc debt s).limits = s.limits ∧
    (State.setDebt acc debt s).axes = s.axes ∧ (State.setDebt acc debt s).env = s.env ∧
    (State.setDebt acc debt s).masks = s.masks ∧ (State.setDebt acc debt s).faults = s.faults ∧
    (State.setDebt acc debt s).ctl = s.ctl ∧ (State.setDebt acc debt s).sup = s.sup ∧
    (State.setDebt acc debt s).resetLine = s.resetLine ∧ (State.setDebt acc debt s).free = s.free := by
  simp only [State.setDebt]; (repeat' split) <;> simp

@[simp] theorem State.nestModel_frame (s : State) :
    (State.nestModel s).pending = s.pending ∧ (State.nestModel s).profile = s.profile ∧
    (State.nestModel s).slurry = s.slurry ∧ (State.nestModel s).marks = s.marks ∧ (State.nestModel s).ring = s.ring ∧
    (State.nestModel s).limits = s.limits ∧ (State.nestModel s).env = s.env ∧ (State.nestModel s).masks = s.masks ∧
    (State.nestModel s).faults = s.faults ∧ (State.nestModel s).ctl = s.ctl ∧ (State.nestModel s).sup = s.sup ∧
    (State.nestModel s).resetLine = s.resetLine ∧ (State.nestModel s).free = s.free := by
  simp only [State.nestModel]; (repeat' split) <;> simp

@[simp] theorem State.nest_frame (s : State) :
    (State.nest s).pending = s.pending ∧ (State.nest s).profile = s.profile ∧ (State.nest s).slurry = s.slurry ∧
    (State.nest s).marks = s.marks ∧ (State.nest s).ring = s.ring ∧ (State.nest s).limits = s.limits ∧
    (State.nest s).env = s.env ∧ (State.nest s).masks = s.masks ∧ (State.nest s).faults = s.faults ∧
    (State.nest s).sup = s.sup ∧ (State.nest s).resetLine = s.resetLine ∧ (State.nest s).free = s.free := by
  simp only [State.nest]; (repeat' split) <;> simp

@[simp] theorem State.progressPhase_frame (s : State) :
    (State.progressPhase s).pending = s.pending ∧ (State.progressPhase s).profile = s.profile ∧
    (State.progressPhase s).slurry = s.slurry ∧ (State.progressPhase s).marks = s.marks ∧
    (State.progressPhase s).ring = s.ring ∧ (State.progressPhase s).env = s.env ∧
    (State.progressPhase s).masks = s.masks ∧ (State.progressPhase s).faults = s.faults ∧
    (State.progressPhase s).sup = s.sup ∧ (State.progressPhase s).resetLine = s.resetLine ∧
    (State.progressPhase s).free = s.free := by
  simp only [State.progressPhase, State.boundary]; (repeat' split) <;> simp

@[simp] theorem State.progress_frame (s : State) :
    (State.progress s).pending = s.pending ∧ (State.progress s).profile = s.profile ∧
    (State.progress s).slurry = s.slurry ∧ (State.progress s).marks = s.marks ∧ (State.progress s).ring = s.ring ∧
    (State.progress s).env = s.env ∧ (State.progress s).masks = s.masks ∧ (State.progress s).faults = s.faults ∧
    (State.progress s).sup = s.sup ∧ (State.progress s).resetLine = s.resetLine ∧
    (State.progress s).free = s.free := by
  simp only [State.progress]; (repeat' split) <;> simp

@[simp] theorem State.beginEnded_frame (o : Order) (r : Outcome) (s : State) :
    (State.beginEnded o r s).pending = s.pending ∧ (State.beginEnded o r s).profile = s.profile ∧
    (State.beginEnded o r s).slurry = s.slurry ∧ (State.beginEnded o r s).kelly = s.kelly ∧
    (State.beginEnded o r s).marks = s.marks ∧ (State.beginEnded o r s).ring = s.ring ∧
    (State.beginEnded o r s).limits = s.limits ∧ (State.beginEnded o r s).env = s.env ∧
    (State.beginEnded o r s).masks = s.masks ∧ (State.beginEnded o r s).faults = s.faults ∧
    (State.beginEnded o r s).ctl = s.ctl ∧ (State.beginEnded o r s).sup = s.sup ∧
    (State.beginEnded o r s).links = s.links ∧ (State.beginEnded o r s).mail = s.mail ∧
    (State.beginEnded o r s).resetLine = s.resetLine ∧ (State.beginEnded o r s).free = s.free := by
  simp only [State.beginEnded]; (repeat' split) <;> simp

@[simp] theorem State.beginPhases_frame (o : Order) (t : Stroke) (s : State) :
    (State.beginPhases o t s).pending = s.pending ∧ (State.beginPhases o t s).profile = s.profile ∧
    (State.beginPhases o t s).slurry = s.slurry ∧ (State.beginPhases o t s).marks = s.marks ∧
    (State.beginPhases o t s).ring = s.ring ∧ (State.beginPhases o t s).env = s.env ∧
    (State.beginPhases o t s).masks = s.masks ∧ (State.beginPhases o t s).faults = s.faults ∧
    (State.beginPhases o t s).sup = s.sup ∧ (State.beginPhases o t s).resetLine = s.resetLine ∧
    (State.beginPhases o t s).free = s.free := by
  simp only [State.beginPhases]; (repeat' split) <;> simp

@[simp] theorem State.lapse_frame (s : State) :
    (State.lapse s).pending = s.pending ∧ (State.lapse s).profile = s.profile ∧ (State.lapse s).slurry = s.slurry ∧
    (State.lapse s).kelly = s.kelly ∧ (State.lapse s).marks = s.marks ∧ (State.lapse s).ring = s.ring ∧
    (State.lapse s).seq = s.seq ∧ (State.lapse s).limits = s.limits ∧ (State.lapse s).env = s.env ∧
    (State.lapse s).masks = s.masks ∧ (State.lapse s).faults = s.faults ∧ (State.lapse s).sup = s.sup ∧
    (State.lapse s).links = s.links ∧ (State.lapse s).mail = s.mail ∧ (State.lapse s).resetLine = s.resetLine ∧
    (State.lapse s).free = s.free := by
  simp only [State.lapse]; (repeat' split) <;> simp

@[simp] theorem State.settlePark_frame (o : Order) (t : Stroke) (s : State) :
    (State.settlePark o t s).pending = s.pending ∧ (State.settlePark o t s).profile = s.profile ∧
    (State.settlePark o t s).slurry = s.slurry ∧ (State.settlePark o t s).marks = s.marks ∧
    (State.settlePark o t s).ring = s.ring ∧ (State.settlePark o t s).seq = s.seq ∧
    (State.settlePark o t s).limits = s.limits ∧ (State.settlePark o t s).env = s.env ∧
    (State.settlePark o t s).masks = s.masks ∧ (State.settlePark o t s).faults = s.faults ∧
    (State.settlePark o t s).sup = s.sup ∧ (State.settlePark o t s).resetLine = s.resetLine ∧
    (State.settlePark o t s).free = s.free := by
  simp only [State.settlePark]; (repeat' split) <;> simp

@[simp] theorem State.writeBack_frame (endDepth : Option Int) (t : Stroke) (s : State) :
    (State.writeBack endDepth t s).pending = s.pending ∧ (State.writeBack endDepth t s).profile = s.profile ∧
    (State.writeBack endDepth t s).slurry = s.slurry ∧ (State.writeBack endDepth t s).marks = s.marks ∧
    (State.writeBack endDepth t s).env = s.env ∧ (State.writeBack endDepth t s).masks = s.masks ∧
    (State.writeBack endDepth t s).faults = s.faults ∧ (State.writeBack endDepth t s).sup = s.sup ∧
    (State.writeBack endDepth t s).resetLine = s.resetLine ∧ (State.writeBack endDepth t s).free = s.free := by
  simp only [State.writeBack]; (repeat' split) <;> simp

@[simp] theorem State.refuseStart_frame (r : Reason) (s : State) :
    (State.refuseStart r s).pending = s.pending ∧ (State.refuseStart r s).profile = s.profile ∧
    (State.refuseStart r s).slurry = s.slurry ∧ (State.refuseStart r s).marks = s.marks ∧
    (State.refuseStart r s).env = s.env ∧ (State.refuseStart r s).masks = s.masks ∧
    (State.refuseStart r s).faults = s.faults ∧ (State.refuseStart r s).sup = s.sup ∧
    (State.refuseStart r s).resetLine = s.resetLine ∧ (State.refuseStart r s).free = s.free := by
  simp only [State.refuseStart]; (repeat' split) <;> simp

@[simp] theorem State.beginStroke_frame (o : Order) (s : State) :
    (State.beginStroke o s).pending = s.pending ∧ (State.beginStroke o s).profile = s.profile ∧
    (State.beginStroke o s).slurry = s.slurry ∧ (State.beginStroke o s).marks = s.marks ∧
    (State.beginStroke o s).ring = s.ring ∧ (State.beginStroke o s).env = s.env ∧
    (State.beginStroke o s).masks = s.masks ∧ (State.beginStroke o s).faults = s.faults ∧
    (State.beginStroke o s).sup = s.sup ∧ (State.beginStroke o s).resetLine = s.resetLine ∧
    (State.beginStroke o s).free = s.free := by
  simp only [State.beginStroke]; (repeat' split) <;> simp

@[simp] theorem State.takeEntry_frame (s : State) :
    (State.takeEntry s).pending = s.pending ∧ (State.takeEntry s).profile = s.profile ∧
    (State.takeEntry s).slurry = s.slurry ∧ (State.takeEntry s).marks = s.marks ∧ (State.takeEntry s).env = s.env ∧
    (State.takeEntry s).masks = s.masks ∧ (State.takeEntry s).faults = s.faults ∧ (State.takeEntry s).sup = s.sup ∧
    (State.takeEntry s).resetLine = s.resetLine ∧ (State.takeEntry s).free = s.free := by
  simp only [State.takeEntry]; (repeat' split) <;> simp

@[simp] theorem State.complete_frame (s : State) :
    (State.complete s).pending = s.pending ∧ (State.complete s).profile = s.profile ∧
    (State.complete s).slurry = s.slurry ∧ (State.complete s).marks = s.marks ∧ (State.complete s).env = s.env ∧
    (State.complete s).masks = s.masks ∧ (State.complete s).faults = s.faults ∧ (State.complete s).sup = s.sup ∧
    (State.complete s).resetLine = s.resetLine ∧ (State.complete s).free = s.free := by
  simp only [State.complete]; (repeat' split) <;> simp

@[simp] theorem State.endSettleWait_frame (s : State) :
    (State.endSettleWait s).pending = s.pending ∧ (State.endSettleWait s).profile = s.profile ∧
    (State.endSettleWait s).slurry = s.slurry ∧ (State.endSettleWait s).marks = s.marks ∧
    (State.endSettleWait s).env = s.env ∧ (State.endSettleWait s).masks = s.masks ∧
    (State.endSettleWait s).faults = s.faults ∧ (State.endSettleWait s).sup = s.sup ∧
    (State.endSettleWait s).resetLine = s.resetLine ∧ (State.endSettleWait s).free = s.free := by
  simp only [State.endSettleWait, State.boundary]; (repeat' split) <;> simp

@[simp] theorem State.markInput_frame (i : SensorInput) (timer : Timer) (fault : Bool) (s : State) :
    (State.markInput i timer fault s).pending = s.pending ∧ (State.markInput i timer fault s).profile = s.profile ∧
    (State.markInput i timer fault s).slurry = s.slurry ∧ (State.markInput i timer fault s).kelly = s.kelly ∧
    (State.markInput i timer fault s).marks = s.marks ∧ (State.markInput i timer fault s).ring = s.ring ∧
    (State.markInput i timer fault s).seq = s.seq ∧ (State.markInput i timer fault s).axes = s.axes ∧ (State.markInput i timer fault s).limits = s.limits ∧
    (State.markInput i timer fault s).env = s.env ∧ (State.markInput i timer fault s).masks = s.masks ∧
    (State.markInput i timer fault s).faults = s.faults ∧ (State.markInput i timer fault s).ctl = s.ctl ∧
    (State.markInput i timer fault s).links = s.links ∧ (State.markInput i timer fault s).resetLine = s.resetLine ∧
    (State.markInput i timer fault s).free = s.free := by
  simp only [State.markInput]; (repeat' split) <;> simp

@[simp] theorem State.setInput_frame (i : SensorInput) (timer : Timer) (fault : Bool) (s : State) :
    (State.setInput i timer fault s).pending = s.pending ∧ (State.setInput i timer fault s).profile = s.profile ∧
    (State.setInput i timer fault s).slurry = s.slurry ∧ (State.setInput i timer fault s).kelly = s.kelly ∧
    (State.setInput i timer fault s).marks = s.marks ∧ (State.setInput i timer fault s).ring = s.ring ∧
    (State.setInput i timer fault s).seq = s.seq ∧ (State.setInput i timer fault s).limits = s.limits ∧
    (State.setInput i timer fault s).env = s.env ∧ (State.setInput i timer fault s).masks = s.masks ∧
    (State.setInput i timer fault s).faults = s.faults ∧ (State.setInput i timer fault s).ctl = s.ctl ∧
    (State.setInput i timer fault s).links = s.links ∧ (State.setInput i timer fault s).resetLine = s.resetLine ∧
    (State.setInput i timer fault s).free = s.free := by
  simp only [State.setInput]; (repeat' split) <;> simp

@[simp] theorem State.accumulate_frame (delta : Int) (s : State) :
    (State.accumulate delta s).pending = s.pending ∧ (State.accumulate delta s).profile = s.profile ∧
    (State.accumulate delta s).slurry = s.slurry ∧ (State.accumulate delta s).marks = s.marks ∧
    (State.accumulate delta s).ring = s.ring ∧ (State.accumulate delta s).limits = s.limits ∧
    (State.accumulate delta s).axes = s.axes ∧ (State.accumulate delta s).env = s.env ∧
    (State.accumulate delta s).masks = s.masks ∧ (State.accumulate delta s).faults = s.faults ∧
    (State.accumulate delta s).ctl = s.ctl ∧ (State.accumulate delta s).sup = s.sup ∧
    (State.accumulate delta s).resetLine = s.resetLine ∧ (State.accumulate delta s).free = s.free := by
  simp only [State.accumulate]; (repeat' split) <;> simp

@[simp] theorem State.placeUnplaced_frame (s : State) :
    (State.placeUnplaced s).pending = s.pending ∧ (State.placeUnplaced s).profile = s.profile ∧
    (State.placeUnplaced s).slurry = s.slurry ∧ (State.placeUnplaced s).marks = s.marks ∧
    (State.placeUnplaced s).ring = s.ring ∧ (State.placeUnplaced s).seq = s.seq ∧
    (State.placeUnplaced s).limits = s.limits ∧ (State.placeUnplaced s).axes = s.axes ∧
    (State.placeUnplaced s).env = s.env ∧ (State.placeUnplaced s).masks = s.masks ∧
    (State.placeUnplaced s).faults = s.faults ∧ (State.placeUnplaced s).ctl = s.ctl ∧
    (State.placeUnplaced s).sup = s.sup ∧ (State.placeUnplaced s).links = s.links ∧
    (State.placeUnplaced s).mail = s.mail ∧ (State.placeUnplaced s).resetLine = s.resetLine ∧
    (State.placeUnplaced s).free = s.free := by
  simp only [State.placeUnplaced]; (repeat' split) <;> simp

@[simp] theorem State.shareSled_frame (delta : Int) (s : State) :
    (State.shareSled delta s).pending = s.pending ∧ (State.shareSled delta s).profile = s.profile ∧
    (State.shareSled delta s).slurry = s.slurry ∧ (State.shareSled delta s).marks = s.marks ∧
    (State.shareSled delta s).ring = s.ring ∧ (State.shareSled delta s).seq = s.seq ∧
    (State.shareSled delta s).limits = s.limits ∧ (State.shareSled delta s).axes = s.axes ∧
    (State.shareSled delta s).env = s.env ∧ (State.shareSled delta s).masks = s.masks ∧
    (State.shareSled delta s).faults = s.faults ∧ (State.shareSled delta s).ctl = s.ctl ∧
    (State.shareSled delta s).sup = s.sup ∧ (State.shareSled delta s).links = s.links ∧
    (State.shareSled delta s).mail = s.mail ∧ (State.shareSled delta s).resetLine = s.resetLine ∧
    (State.shareSled delta s).free = s.free := by
  simp only [State.shareSled]; (repeat' split) <;> simp

@[simp] theorem State.testDiscrepancy_frame (s : State) :
    (State.testDiscrepancy s).pending = s.pending ∧ (State.testDiscrepancy s).profile = s.profile ∧
    (State.testDiscrepancy s).slurry = s.slurry ∧ (State.testDiscrepancy s).marks = s.marks ∧
    (State.testDiscrepancy s).ring = s.ring ∧ (State.testDiscrepancy s).seq = s.seq ∧
    (State.testDiscrepancy s).limits = s.limits ∧ (State.testDiscrepancy s).axes = s.axes ∧
    (State.testDiscrepancy s).env = s.env ∧ (State.testDiscrepancy s).masks = s.masks ∧
    (State.testDiscrepancy s).faults = s.faults ∧ (State.testDiscrepancy s).ctl = s.ctl ∧
    (State.testDiscrepancy s).sup = s.sup ∧ (State.testDiscrepancy s).links = s.links ∧
    (State.testDiscrepancy s).resetLine = s.resetLine ∧ (State.testDiscrepancy s).free = s.free := by
  simp only [State.testDiscrepancy]; (repeat' split) <;> simp

@[simp] theorem State.afterMove_frame (old : Kelly) (oldDepth : Option Int) (s : State) :
    (State.afterMove old oldDepth s).pending = s.pending ∧ (State.afterMove old oldDepth s).profile = s.profile ∧
    (State.afterMove old oldDepth s).slurry = s.slurry ∧ (State.afterMove old oldDepth s).marks = s.marks ∧
    (State.afterMove old oldDepth s).ring = s.ring ∧ (State.afterMove old oldDepth s).seq = s.seq ∧
    (State.afterMove old oldDepth s).limits = s.limits ∧ (State.afterMove old oldDepth s).env = s.env ∧
    (State.afterMove old oldDepth s).masks = s.masks ∧ (State.afterMove old oldDepth s).faults = s.faults ∧
    (State.afterMove old oldDepth s).sup = s.sup ∧ (State.afterMove old oldDepth s).resetLine = s.resetLine ∧
    (State.afterMove old oldDepth s).free = s.free := by
  simp only [State.afterMove]; (repeat' split) <;> simp

@[simp] theorem State.testDepth_frame (depth : Int) (s : State) :
    (State.testDepth depth s).pending = s.pending ∧ (State.testDepth depth s).profile = s.profile ∧
    (State.testDepth depth s).slurry = s.slurry ∧ (State.testDepth depth s).marks = s.marks ∧
    (State.testDepth depth s).ring = s.ring ∧ (State.testDepth depth s).env = s.env ∧
    (State.testDepth depth s).masks = s.masks ∧ (State.testDepth depth s).faults = s.faults ∧
    (State.testDepth depth s).sup = s.sup ∧ (State.testDepth depth s).resetLine = s.resetLine ∧
    (State.testDepth depth s).free = s.free := by
  simp only [State.testDepth]; (repeat' split) <;> simp

@[simp] theorem State.testSledEnd_frame (sled : Int) (s : State) :
    (State.testSledEnd sled s).pending = s.pending ∧ (State.testSledEnd sled s).profile = s.profile ∧
    (State.testSledEnd sled s).slurry = s.slurry ∧ (State.testSledEnd sled s).kelly = s.kelly ∧
    (State.testSledEnd sled s).marks = s.marks ∧ (State.testSledEnd sled s).ring = s.ring ∧
    (State.testSledEnd sled s).env = s.env ∧ (State.testSledEnd sled s).masks = s.masks ∧
    (State.testSledEnd sled s).faults = s.faults ∧ (State.testSledEnd sled s).ctl = s.ctl ∧
    (State.testSledEnd sled s).sup = s.sup ∧ (State.testSledEnd sled s).links = s.links ∧
    (State.testSledEnd sled s).mail = s.mail ∧ (State.testSledEnd sled s).resetLine = s.resetLine ∧
    (State.testSledEnd sled s).free = s.free := by
  simp only [State.testSledEnd]; (repeat' split) <;> simp

@[simp] theorem State.sledAtStroke_frame (sled : Int) (s : State) :
    (State.sledAtStroke sled s).pending = s.pending ∧ (State.sledAtStroke sled s).profile = s.profile ∧
    (State.sledAtStroke sled s).slurry = s.slurry ∧ (State.sledAtStroke sled s).kelly = s.kelly ∧
    (State.sledAtStroke sled s).marks = s.marks ∧ (State.sledAtStroke sled s).ring = s.ring ∧
    (State.sledAtStroke sled s).env = s.env ∧ (State.sledAtStroke sled s).masks = s.masks ∧
    (State.sledAtStroke sled s).faults = s.faults ∧ (State.sledAtStroke sled s).ctl = s.ctl ∧
    (State.sledAtStroke sled s).sup = s.sup ∧ (State.sledAtStroke sled s).links = s.links ∧
    (State.sledAtStroke sled s).mail = s.mail ∧ (State.sledAtStroke sled s).resetLine = s.resetLine ∧
    (State.sledAtStroke sled s).free = s.free := by
  simp only [State.sledAtStroke, State.boundary]; (repeat' split) <;> simp

@[simp] theorem State.moveRope_frame (delta : Int) (s : State) :
    (State.moveRope delta s).pending = s.pending ∧ (State.moveRope delta s).profile = s.profile ∧
    (State.moveRope delta s).slurry = s.slurry ∧ (State.moveRope delta s).marks = s.marks ∧
    (State.moveRope delta s).ring = s.ring ∧ (State.moveRope delta s).limits = s.limits ∧
    (State.moveRope delta s).env = s.env ∧ (State.moveRope delta s).masks = s.masks ∧
    (State.moveRope delta s).faults = s.faults ∧ (State.moveRope delta s).sup = s.sup ∧
    (State.moveRope delta s).resetLine = s.resetLine ∧ (State.moveRope delta s).free = s.free := by
  simp only [State.moveRope]; (repeat' split) <;> simp

@[simp] theorem State.judgeHoist_frame (delta : Int) (s : State) :
    (State.judgeHoist delta s).pending = s.pending ∧ (State.judgeHoist delta s).profile = s.profile ∧
    (State.judgeHoist delta s).slurry = s.slurry ∧ (State.judgeHoist delta s).kelly = s.kelly ∧
    (State.judgeHoist delta s).marks = s.marks ∧ (State.judgeHoist delta s).ring = s.ring ∧
    (State.judgeHoist delta s).seq = s.seq ∧ (State.judgeHoist delta s).limits = s.limits ∧
    (State.judgeHoist delta s).env = s.env ∧ (State.judgeHoist delta s).masks = s.masks ∧
    (State.judgeHoist delta s).faults = s.faults ∧ (State.judgeHoist delta s).ctl = s.ctl ∧
    (State.judgeHoist delta s).sup = s.sup ∧ (State.judgeHoist delta s).links = s.links ∧
    (State.judgeHoist delta s).mail = s.mail ∧ (State.judgeHoist delta s).resetLine = s.resetLine ∧
    (State.judgeHoist delta s).free = s.free := by
  simp only [State.judgeHoist]; (repeat' split) <;> simp

@[simp] theorem State.watchTopStop_frame (count : Int) (s : State) :
    (State.watchTopStop count s).pending = s.pending ∧ (State.watchTopStop count s).profile = s.profile ∧
    (State.watchTopStop count s).slurry = s.slurry ∧ (State.watchTopStop count s).kelly = s.kelly ∧
    (State.watchTopStop count s).marks = s.marks ∧ (State.watchTopStop count s).ring = s.ring ∧
    (State.watchTopStop count s).seq = s.seq ∧ (State.watchTopStop count s).limits = s.limits ∧
    (State.watchTopStop count s).env = s.env ∧ (State.watchTopStop count s).masks = s.masks ∧
    (State.watchTopStop count s).faults = s.faults ∧ (State.watchTopStop count s).ctl = s.ctl ∧
    (State.watchTopStop count s).sup = s.sup ∧ (State.watchTopStop count s).links = s.links ∧
    (State.watchTopStop count s).resetLine = s.resetLine ∧ (State.watchTopStop count s).free = s.free := by
  simp only [State.watchTopStop]; (repeat' split) <;> simp

@[simp] theorem State.followZone_frame (s : State) :
    (State.followZone s).pending = s.pending ∧ (State.followZone s).profile = s.profile ∧
    (State.followZone s).slurry = s.slurry ∧ (State.followZone s).kelly = s.kelly ∧
    (State.followZone s).marks = s.marks ∧ (State.followZone s).ring = s.ring ∧ (State.followZone s).seq = s.seq ∧
    (State.followZone s).limits = s.limits ∧ (State.followZone s).env = s.env ∧ (State.followZone s).masks = s.masks ∧
    (State.followZone s).faults = s.faults ∧ (State.followZone s).ctl = s.ctl ∧ (State.followZone s).sup = s.sup ∧
    (State.followZone s).links = s.links ∧ (State.followZone s).mail = s.mail ∧
    (State.followZone s).resetLine = s.resetLine ∧ (State.followZone s).free = s.free := by
  simp only [State.followZone]; (repeat' split) <;> simp

@[simp] theorem State.watchStuck_frame (tension : Int) (s : State) :
    (State.watchStuck tension s).pending = s.pending ∧ (State.watchStuck tension s).profile = s.profile ∧
    (State.watchStuck tension s).slurry = s.slurry ∧ (State.watchStuck tension s).kelly = s.kelly ∧
    (State.watchStuck tension s).marks = s.marks ∧ (State.watchStuck tension s).ring = s.ring ∧
    (State.watchStuck tension s).limits = s.limits ∧ (State.watchStuck tension s).axes = s.axes ∧
    (State.watchStuck tension s).env = s.env ∧ (State.watchStuck tension s).masks = s.masks ∧
    (State.watchStuck tension s).faults = s.faults ∧ (State.watchStuck tension s).ctl = s.ctl ∧
    (State.watchStuck tension s).sup = s.sup ∧ (State.watchStuck tension s).links = s.links ∧
    (State.watchStuck tension s).mail = s.mail ∧ (State.watchStuck tension s).resetLine = s.resetLine ∧
    (State.watchStuck tension s).free = s.free := by
  simp only [State.watchStuck]; (repeat' split) <;> simp

@[simp] theorem State.takeRope_frame (count : Int) (s : State) :
    (State.takeRope count s).pending = s.pending ∧ (State.takeRope count s).profile = s.profile ∧
    (State.takeRope count s).slurry = s.slurry ∧ (State.takeRope count s).marks = s.marks ∧
    (State.takeRope count s).ring = s.ring ∧ (State.takeRope count s).limits = s.limits ∧
    (State.takeRope count s).env = s.env ∧ (State.takeRope count s).masks = s.masks ∧
    (State.takeRope count s).faults = s.faults ∧ (State.takeRope count s).sup = s.sup ∧
    (State.takeRope count s).resetLine = s.resetLine ∧ (State.takeRope count s).free = s.free := by
  simp only [State.takeRope]; (repeat' split) <;> simp

@[simp] theorem State.correctRope_frame (s : State) :
    (State.correctRope s).pending = s.pending ∧ (State.correctRope s).profile = s.profile ∧
    (State.correctRope s).slurry = s.slurry ∧ (State.correctRope s).marks = s.marks ∧
    (State.correctRope s).ring = s.ring ∧ (State.correctRope s).limits = s.limits ∧
    (State.correctRope s).env = s.env ∧ (State.correctRope s).masks = s.masks ∧
    (State.correctRope s).faults = s.faults ∧ (State.correctRope s).sup = s.sup ∧
    (State.correctRope s).resetLine = s.resetLine ∧ (State.correctRope s).free = s.free := by
  simp only [State.correctRope]; (repeat' split) <;> simp

@[simp] theorem State.fixRope_frame (s : State) :
    (State.fixRope s).pending = s.pending ∧ (State.fixRope s).profile = s.profile ∧
    (State.fixRope s).slurry = s.slurry ∧ (State.fixRope s).marks = s.marks ∧ (State.fixRope s).ring = s.ring ∧
    (State.fixRope s).limits = s.limits ∧ (State.fixRope s).axes = s.axes ∧ (State.fixRope s).env = s.env ∧
    (State.fixRope s).masks = s.masks ∧ (State.fixRope s).faults = s.faults ∧ (State.fixRope s).ctl = s.ctl ∧
    (State.fixRope s).sup = s.sup ∧ (State.fixRope s).resetLine = s.resetLine ∧ (State.fixRope s).free = s.free := by
  simp only [State.fixRope]; (repeat' split) <;> simp

@[simp] theorem State.takeDatum_frame (on : Bool) (s : State) :
    (State.takeDatum on s).pending = s.pending ∧ (State.takeDatum on s).profile = s.profile ∧
    (State.takeDatum on s).slurry = s.slurry ∧ (State.takeDatum on s).marks = s.marks ∧
    (State.takeDatum on s).ring = s.ring ∧ (State.takeDatum on s).limits = s.limits ∧
    (State.takeDatum on s).env = s.env ∧ (State.takeDatum on s).masks = s.masks ∧
    (State.takeDatum on s).faults = s.faults ∧ (State.takeDatum on s).sup = s.sup ∧
    (State.takeDatum on s).resetLine = s.resetLine ∧ (State.takeDatum on s).free = s.free := by
  simp only [State.takeDatum]; (repeat' split) <;> simp

@[simp] theorem State.topAtStroke_frame (s : State) :
    (State.topAtStroke s).pending = s.pending ∧ (State.topAtStroke s).profile = s.profile ∧
    (State.topAtStroke s).slurry = s.slurry ∧ (State.topAtStroke s).kelly = s.kelly ∧
    (State.topAtStroke s).marks = s.marks ∧ (State.topAtStroke s).ring = s.ring ∧ (State.topAtStroke s).env = s.env ∧
    (State.topAtStroke s).masks = s.masks ∧ (State.topAtStroke s).faults = s.faults ∧
    (State.topAtStroke s).ctl = s.ctl ∧ (State.topAtStroke s).sup = s.sup ∧ (State.topAtStroke s).links = s.links ∧
    (State.topAtStroke s).mail = s.mail ∧ (State.topAtStroke s).resetLine = s.resetLine ∧
    (State.topAtStroke s).free = s.free := by
  simp only [State.topAtStroke]; (repeat' split) <;> simp

@[simp] theorem State.takeTopStop_frame (on : Bool) (s : State) :
    (State.takeTopStop on s).pending = s.pending ∧ (State.takeTopStop on s).profile = s.profile ∧
    (State.takeTopStop on s).slurry = s.slurry ∧ (State.takeTopStop on s).kelly = s.kelly ∧
    (State.takeTopStop on s).marks = s.marks ∧ (State.takeTopStop on s).ring = s.ring ∧
    (State.takeTopStop on s).env = s.env ∧ (State.takeTopStop on s).masks = s.masks ∧
    (State.takeTopStop on s).faults = s.faults ∧ (State.takeTopStop on s).ctl = s.ctl ∧
    (State.takeTopStop on s).sup = s.sup ∧ (State.takeTopStop on s).links = s.links ∧
    (State.takeTopStop on s).mail = s.mail ∧ (State.takeTopStop on s).resetLine = s.resetLine ∧
    (State.takeTopStop on s).free = s.free := by
  simp only [State.takeTopStop]; (repeat' split) <;> simp

@[simp] theorem State.judgeCrowd_frame (delta : Int) (s : State) :
    (State.judgeCrowd delta s).pending = s.pending ∧ (State.judgeCrowd delta s).profile = s.profile ∧
    (State.judgeCrowd delta s).slurry = s.slurry ∧ (State.judgeCrowd delta s).kelly = s.kelly ∧
    (State.judgeCrowd delta s).marks = s.marks ∧ (State.judgeCrowd delta s).ring = s.ring ∧
    (State.judgeCrowd delta s).seq = s.seq ∧ (State.judgeCrowd delta s).limits = s.limits ∧
    (State.judgeCrowd delta s).env = s.env ∧ (State.judgeCrowd delta s).masks = s.masks ∧
    (State.judgeCrowd delta s).faults = s.faults ∧ (State.judgeCrowd delta s).ctl = s.ctl ∧
    (State.judgeCrowd delta s).sup = s.sup ∧ (State.judgeCrowd delta s).links = s.links ∧
    (State.judgeCrowd delta s).mail = s.mail ∧ (State.judgeCrowd delta s).resetLine = s.resetLine ∧
    (State.judgeCrowd delta s).free = s.free := by
  simp only [State.judgeCrowd]; (repeat' split) <;> simp

@[simp] theorem State.takeSled_frame (x : Int) (s : State) :
    (State.takeSled x s).pending = s.pending ∧ (State.takeSled x s).profile = s.profile ∧
    (State.takeSled x s).slurry = s.slurry ∧ (State.takeSled x s).marks = s.marks ∧
    (State.takeSled x s).ring = s.ring ∧ (State.takeSled x s).env = s.env ∧ (State.takeSled x s).masks = s.masks ∧
    (State.takeSled x s).faults = s.faults ∧ (State.takeSled x s).sup = s.sup ∧
    (State.takeSled x s).resetLine = s.resetLine ∧ (State.takeSled x s).free = s.free := by
  simp only [State.takeSled]; (repeat' split) <;> simp

@[simp] theorem State.springBack_frame (delta : Int) (s : State) :
    (State.springBack delta s).pending = s.pending ∧ (State.springBack delta s).profile = s.profile ∧
    (State.springBack delta s).slurry = s.slurry ∧ (State.springBack delta s).marks = s.marks ∧
    (State.springBack delta s).ring = s.ring ∧ (State.springBack delta s).seq = s.seq ∧
    (State.springBack delta s).limits = s.limits ∧ (State.springBack delta s).env = s.env ∧
    (State.springBack delta s).masks = s.masks ∧ (State.springBack delta s).faults = s.faults ∧
    (State.springBack delta s).sup = s.sup ∧ (State.springBack delta s).resetLine = s.resetLine ∧
    (State.springBack delta s).free = s.free := by
  simp only [State.springBack]; (repeat' split) <;> simp

@[simp] theorem State.angleAtTurn_frame (t : Stroke) (s : State) :
    (State.angleAtTurn t s).pending = s.pending ∧ (State.angleAtTurn t s).profile = s.profile ∧
    (State.angleAtTurn t s).slurry = s.slurry ∧ (State.angleAtTurn t s).kelly = s.kelly ∧
    (State.angleAtTurn t s).marks = s.marks ∧ (State.angleAtTurn t s).ring = s.ring ∧
    (State.angleAtTurn t s).limits = s.limits ∧ (State.angleAtTurn t s).env = s.env ∧
    (State.angleAtTurn t s).masks = s.masks ∧ (State.angleAtTurn t s).faults = s.faults ∧
    (State.angleAtTurn t s).ctl = s.ctl ∧ (State.angleAtTurn t s).sup = s.sup ∧
    (State.angleAtTurn t s).links = s.links ∧ (State.angleAtTurn t s).mail = s.mail ∧
    (State.angleAtTurn t s).resetLine = s.resetLine ∧ (State.angleAtTurn t s).free = s.free := by
  simp only [State.angleAtTurn]; (repeat' split) <;> simp

@[simp] theorem State.angleAtUnseat_frame (t : Stroke) (s : State) :
    (State.angleAtUnseat t s).pending = s.pending ∧ (State.angleAtUnseat t s).profile = s.profile ∧
    (State.angleAtUnseat t s).slurry = s.slurry ∧ (State.angleAtUnseat t s).kelly = s.kelly ∧
    (State.angleAtUnseat t s).marks = s.marks ∧ (State.angleAtUnseat t s).ring = s.ring ∧
    (State.angleAtUnseat t s).limits = s.limits ∧ (State.angleAtUnseat t s).env = s.env ∧
    (State.angleAtUnseat t s).masks = s.masks ∧ (State.angleAtUnseat t s).faults = s.faults ∧
    (State.angleAtUnseat t s).ctl = s.ctl ∧ (State.angleAtUnseat t s).sup = s.sup ∧
    (State.angleAtUnseat t s).links = s.links ∧ (State.angleAtUnseat t s).mail = s.mail ∧
    (State.angleAtUnseat t s).resetLine = s.resetLine ∧ (State.angleAtUnseat t s).free = s.free := by
  simp only [State.angleAtUnseat]; (repeat' split) <;> simp

@[simp] theorem State.angleAtRelief_frame (o : Order) (s : State) :
    (State.angleAtRelief o s).pending = s.pending ∧ (State.angleAtRelief o s).profile = s.profile ∧
    (State.angleAtRelief o s).slurry = s.slurry ∧ (State.angleAtRelief o s).kelly = s.kelly ∧
    (State.angleAtRelief o s).marks = s.marks ∧ (State.angleAtRelief o s).ring = s.ring ∧
    (State.angleAtRelief o s).seq = s.seq ∧ (State.angleAtRelief o s).limits = s.limits ∧
    (State.angleAtRelief o s).env = s.env ∧ (State.angleAtRelief o s).masks = s.masks ∧
    (State.angleAtRelief o s).faults = s.faults ∧ (State.angleAtRelief o s).ctl = s.ctl ∧
    (State.angleAtRelief o s).sup = s.sup ∧ (State.angleAtRelief o s).links = s.links ∧
    (State.angleAtRelief o s).mail = s.mail ∧ (State.angleAtRelief o s).resetLine = s.resetLine ∧
    (State.angleAtRelief o s).free = s.free := by
  simp only [State.angleAtRelief]; (repeat' split) <;> simp

@[simp] theorem State.angleAtStroke_frame (s : State) :
    (State.angleAtStroke s).pending = s.pending ∧ (State.angleAtStroke s).profile = s.profile ∧
    (State.angleAtStroke s).slurry = s.slurry ∧ (State.angleAtStroke s).kelly = s.kelly ∧
    (State.angleAtStroke s).marks = s.marks ∧ (State.angleAtStroke s).ring = s.ring ∧
    (State.angleAtStroke s).limits = s.limits ∧ (State.angleAtStroke s).env = s.env ∧
    (State.angleAtStroke s).masks = s.masks ∧ (State.angleAtStroke s).faults = s.faults ∧
    (State.angleAtStroke s).ctl = s.ctl ∧ (State.angleAtStroke s).sup = s.sup ∧
    (State.angleAtStroke s).links = s.links ∧ (State.angleAtStroke s).mail = s.mail ∧
    (State.angleAtStroke s).resetLine = s.resetLine ∧ (State.angleAtStroke s).free = s.free := by
  simp only [State.angleAtStroke]; (repeat' split) <;> simp

@[simp] theorem State.failReseat_frame (v : FaultVector) (s : State) :
    (State.failReseat v s).pending = s.pending ∧ (State.failReseat v s).profile = s.profile ∧
    (State.failReseat v s).slurry = s.slurry ∧ (State.failReseat v s).marks = s.marks ∧
    (State.failReseat v s).ring = s.ring ∧ (State.failReseat v s).seq = s.seq ∧
    (State.failReseat v s).limits = s.limits ∧ (State.failReseat v s).env = s.env ∧
    (State.failReseat v s).masks = s.masks ∧ (State.failReseat v s).faults = s.faults ∧
    (State.failReseat v s).sup = s.sup ∧ (State.failReseat v s).resetLine = s.resetLine ∧
    (State.failReseat v s).free = s.free := by
  simp only [State.failReseat]; (repeat' split) <;> simp

@[simp] theorem State.angleAtReseat_frame (s : State) :
    (State.angleAtReseat s).pending = s.pending ∧ (State.angleAtReseat s).profile = s.profile ∧
    (State.angleAtReseat s).slurry = s.slurry ∧ (State.angleAtReseat s).marks = s.marks ∧
    (State.angleAtReseat s).ring = s.ring ∧ (State.angleAtReseat s).seq = s.seq ∧
    (State.angleAtReseat s).limits = s.limits ∧ (State.angleAtReseat s).env = s.env ∧
    (State.angleAtReseat s).masks = s.masks ∧ (State.angleAtReseat s).faults = s.faults ∧
    (State.angleAtReseat s).sup = s.sup ∧ (State.angleAtReseat s).resetLine = s.resetLine ∧
    (State.angleAtReseat s).free = s.free := by
  simp only [State.angleAtReseat]; (repeat' split) <;> simp

@[simp] theorem State.fillOrigins_frame (a : Int) (s : State) :
    (State.fillOrigins a s).pending = s.pending ∧ (State.fillOrigins a s).profile = s.profile ∧
    (State.fillOrigins a s).slurry = s.slurry ∧ (State.fillOrigins a s).marks = s.marks ∧
    (State.fillOrigins a s).ring = s.ring ∧ (State.fillOrigins a s).limits = s.limits ∧
    (State.fillOrigins a s).axes = s.axes ∧ (State.fillOrigins a s).env = s.env ∧
    (State.fillOrigins a s).masks = s.masks ∧ (State.fillOrigins a s).faults = s.faults ∧
    (State.fillOrigins a s).ctl = s.ctl ∧ (State.fillOrigins a s).sup = s.sup ∧
    (State.fillOrigins a s).links = s.links ∧ (State.fillOrigins a s).mail = s.mail ∧
    (State.fillOrigins a s).resetLine = s.resetLine ∧ (State.fillOrigins a s).free = s.free := by
  simp only [State.fillOrigins]; (repeat' split) <;> simp

@[simp] theorem State.takeAngle_frame (x : Int) (s : State) :
    (State.takeAngle x s).pending = s.pending ∧ (State.takeAngle x s).profile = s.profile ∧
    (State.takeAngle x s).slurry = s.slurry ∧ (State.takeAngle x s).marks = s.marks ∧
    (State.takeAngle x s).ring = s.ring ∧ (State.takeAngle x s).limits = s.limits ∧
    (State.takeAngle x s).env = s.env ∧ (State.takeAngle x s).masks = s.masks ∧
    (State.takeAngle x s).faults = s.faults ∧ (State.takeAngle x s).sup = s.sup ∧
    (State.takeAngle x s).resetLine = s.resetLine ∧ (State.takeAngle x s).free = s.free := by
  simp only [State.takeAngle]; (repeat' split) <;> simp

@[simp] theorem State.testStall_frame (s : State) :
    (State.testStall s).pending = s.pending ∧ (State.testStall s).profile = s.profile ∧
    (State.testStall s).slurry = s.slurry ∧ (State.testStall s).kelly = s.kelly ∧
    (State.testStall s).marks = s.marks ∧ (State.testStall s).ring = s.ring ∧ (State.testStall s).seq = s.seq ∧
    (State.testStall s).limits = s.limits ∧ (State.testStall s).env = s.env ∧ (State.testStall s).masks = s.masks ∧
    (State.testStall s).faults = s.faults ∧ (State.testStall s).ctl = s.ctl ∧ (State.testStall s).sup = s.sup ∧
    (State.testStall s).links = s.links ∧ (State.testStall s).mail = s.mail ∧
    (State.testStall s).resetLine = s.resetLine ∧ (State.testStall s).free = s.free := by
  simp only [State.testStall]; (repeat' split) <;> simp

@[simp] theorem State.peak_frame (f : Figures → Figures) (s : State) :
    (State.peak f s).pending = s.pending ∧ (State.peak f s).profile = s.profile ∧ (State.peak f s).slurry = s.slurry ∧
    (State.peak f s).kelly = s.kelly ∧ (State.peak f s).marks = s.marks ∧ (State.peak f s).ring = s.ring ∧
    (State.peak f s).limits = s.limits ∧ (State.peak f s).axes = s.axes ∧ (State.peak f s).env = s.env ∧
    (State.peak f s).masks = s.masks ∧ (State.peak f s).faults = s.faults ∧ (State.peak f s).ctl = s.ctl ∧
    (State.peak f s).sup = s.sup ∧ (State.peak f s).links = s.links ∧ (State.peak f s).mail = s.mail ∧
    (State.peak f s).resetLine = s.resetLine ∧ (State.peak f s).free = s.free := by
  simp only [State.peak]; (repeat' split) <;> simp

@[simp] theorem State.torqueAtUnseat_frame (s : State) :
    (State.torqueAtUnseat s).pending = s.pending ∧ (State.torqueAtUnseat s).profile = s.profile ∧
    (State.torqueAtUnseat s).slurry = s.slurry ∧ (State.torqueAtUnseat s).kelly = s.kelly ∧
    (State.torqueAtUnseat s).marks = s.marks ∧ (State.torqueAtUnseat s).ring = s.ring ∧
    (State.torqueAtUnseat s).limits = s.limits ∧ (State.torqueAtUnseat s).axes = s.axes ∧
    (State.torqueAtUnseat s).env = s.env ∧ (State.torqueAtUnseat s).masks = s.masks ∧
    (State.torqueAtUnseat s).faults = s.faults ∧ (State.torqueAtUnseat s).ctl = s.ctl ∧
    (State.torqueAtUnseat s).sup = s.sup ∧ (State.torqueAtUnseat s).links = s.links ∧
    (State.torqueAtUnseat s).mail = s.mail ∧ (State.torqueAtUnseat s).resetLine = s.resetLine ∧
    (State.torqueAtUnseat s).free = s.free := by
  simp only [State.torqueAtUnseat]; (repeat' split) <;> simp

@[simp] theorem State.torqueAtReseat_frame (s : State) :
    (State.torqueAtReseat s).pending = s.pending ∧ (State.torqueAtReseat s).profile = s.profile ∧
    (State.torqueAtReseat s).slurry = s.slurry ∧ (State.torqueAtReseat s).marks = s.marks ∧
    (State.torqueAtReseat s).ring = s.ring ∧ (State.torqueAtReseat s).seq = s.seq ∧
    (State.torqueAtReseat s).limits = s.limits ∧ (State.torqueAtReseat s).env = s.env ∧
    (State.torqueAtReseat s).masks = s.masks ∧ (State.torqueAtReseat s).faults = s.faults ∧
    (State.torqueAtReseat s).sup = s.sup ∧ (State.torqueAtReseat s).links = s.links ∧
    (State.torqueAtReseat s).resetLine = s.resetLine ∧ (State.torqueAtReseat s).free = s.free := by
  simp only [State.torqueAtReseat]; (repeat' split) <;> simp

@[simp] theorem State.takeRotaryPressure_frame (p : RotaryPort) (x : Int) (s : State) :
    (State.takeRotaryPressure p x s).pending = s.pending ∧ (State.takeRotaryPressure p x s).profile = s.profile ∧
    (State.takeRotaryPressure p x s).slurry = s.slurry ∧ (State.takeRotaryPressure p x s).marks = s.marks ∧
    (State.takeRotaryPressure p x s).ring = s.ring ∧ (State.takeRotaryPressure p x s).limits = s.limits ∧
    (State.takeRotaryPressure p x s).env = s.env ∧ (State.takeRotaryPressure p x s).masks = s.masks ∧
    (State.takeRotaryPressure p x s).faults = s.faults ∧ (State.takeRotaryPressure p x s).sup = s.sup ∧
    (State.takeRotaryPressure p x s).links = s.links ∧ (State.takeRotaryPressure p x s).resetLine = s.resetLine ∧
    (State.takeRotaryPressure p x s).free = s.free := by
  simp only [State.takeRotaryPressure]; (repeat' split) <;> simp

@[simp] theorem State.takeCrowdPressure_frame (p : CrowdPort) (x : Int) (s : State) :
    (State.takeCrowdPressure p x s).pending = s.pending ∧ (State.takeCrowdPressure p x s).profile = s.profile ∧
    (State.takeCrowdPressure p x s).slurry = s.slurry ∧ (State.takeCrowdPressure p x s).marks = s.marks ∧
    (State.takeCrowdPressure p x s).ring = s.ring ∧ (State.takeCrowdPressure p x s).limits = s.limits ∧
    (State.takeCrowdPressure p x s).env = s.env ∧ (State.takeCrowdPressure p x s).masks = s.masks ∧
    (State.takeCrowdPressure p x s).faults = s.faults ∧ (State.takeCrowdPressure p x s).ctl = s.ctl ∧
    (State.takeCrowdPressure p x s).sup = s.sup ∧ (State.takeCrowdPressure p x s).links = s.links ∧
    (State.takeCrowdPressure p x s).resetLine = s.resetLine ∧ (State.takeCrowdPressure p x s).free = s.free := by
  simp only [State.takeCrowdPressure]; (repeat' split) <;> simp

@[simp] theorem State.watchTension_frame (x : Int) (s : State) :
    (State.watchTension x s).pending = s.pending ∧ (State.watchTension x s).profile = s.profile ∧
    (State.watchTension x s).slurry = s.slurry ∧ (State.watchTension x s).kelly = s.kelly ∧
    (State.watchTension x s).marks = s.marks ∧ (State.watchTension x s).ring = s.ring ∧
    (State.watchTension x s).seq = s.seq ∧ (State.watchTension x s).limits = s.limits ∧
    (State.watchTension x s).env = s.env ∧ (State.watchTension x s).masks = s.masks ∧
    (State.watchTension x s).faults = s.faults ∧ (State.watchTension x s).ctl = s.ctl ∧
    (State.watchTension x s).sup = s.sup ∧ (State.watchTension x s).links = s.links ∧
    (State.watchTension x s).resetLine = s.resetLine ∧ (State.watchTension x s).free = s.free := by
  simp only [State.watchTension]; (repeat' split) <;> simp

@[simp] theorem State.takeTension_frame (x : Int) (channelFirst : Bool) (s : State) :
    (State.takeTension x channelFirst s).pending = s.pending ∧
    (State.takeTension x channelFirst s).profile = s.profile ∧
    (State.takeTension x channelFirst s).slurry = s.slurry ∧ (State.takeTension x channelFirst s).marks = s.marks ∧
    (State.takeTension x channelFirst s).ring = s.ring ∧ (State.takeTension x channelFirst s).limits = s.limits ∧
    (State.takeTension x channelFirst s).env = s.env ∧ (State.takeTension x channelFirst s).masks = s.masks ∧
    (State.takeTension x channelFirst s).faults = s.faults ∧ (State.takeTension x channelFirst s).ctl = s.ctl ∧
    (State.takeTension x channelFirst s).sup = s.sup ∧ (State.takeTension x channelFirst s).links = s.links ∧
    (State.takeTension x channelFirst s).resetLine = s.resetLine ∧
    (State.takeTension x channelFirst s).free = s.free := by
  simp only [State.takeTension]; (repeat' split) <;> simp

@[simp] theorem State.takeSpeed_frame (x : Int) (s : State) :
    (State.takeSpeed x s).pending = s.pending ∧ (State.takeSpeed x s).profile = s.profile ∧
    (State.takeSpeed x s).slurry = s.slurry ∧ (State.takeSpeed x s).marks = s.marks ∧
    (State.takeSpeed x s).ring = s.ring ∧ (State.takeSpeed x s).limits = s.limits ∧ (State.takeSpeed x s).env = s.env ∧
    (State.takeSpeed x s).masks = s.masks ∧ (State.takeSpeed x s).faults = s.faults ∧
    (State.takeSpeed x s).ctl = s.ctl ∧ (State.takeSpeed x s).sup = s.sup ∧ (State.takeSpeed x s).links = s.links ∧
    (State.takeSpeed x s).mail = s.mail ∧ (State.takeSpeed x s).resetLine = s.resetLine ∧
    (State.takeSpeed x s).free = s.free := by
  simp only [State.takeSpeed]; (repeat' split) <;> simp

@[simp] theorem State.setGear_frame (g : Option Gear) (s : State) :
    (State.setGear g s).pending = s.pending ∧ (State.setGear g s).profile = s.profile ∧
    (State.setGear g s).slurry = s.slurry ∧ (State.setGear g s).marks = s.marks ∧ (State.setGear g s).ring = s.ring ∧
    (State.setGear g s).seq = s.seq ∧ (State.setGear g s).limits = s.limits ∧ (State.setGear g s).env = s.env ∧
    (State.setGear g s).masks = s.masks ∧ (State.setGear g s).faults = s.faults ∧ (State.setGear g s).ctl = s.ctl ∧
    (State.setGear g s).sup = s.sup ∧ (State.setGear g s).links = s.links ∧
    (State.setGear g s).resetLine = s.resetLine ∧ (State.setGear g s).free = s.free := by
  simp only [State.setGear]; (repeat' split) <;> simp

@[simp] theorem State.afterShift_frame (queued : Option Gear) (s : State) :
    (State.afterShift queued s).pending = s.pending ∧ (State.afterShift queued s).profile = s.profile ∧
    (State.afterShift queued s).slurry = s.slurry ∧ (State.afterShift queued s).kelly = s.kelly ∧
    (State.afterShift queued s).marks = s.marks ∧ (State.afterShift queued s).ring = s.ring ∧
    (State.afterShift queued s).seq = s.seq ∧ (State.afterShift queued s).limits = s.limits ∧
    (State.afterShift queued s).env = s.env ∧ (State.afterShift queued s).masks = s.masks ∧
    (State.afterShift queued s).faults = s.faults ∧ (State.afterShift queued s).ctl = s.ctl ∧
    (State.afterShift queued s).sup = s.sup ∧ (State.afterShift queued s).links = s.links ∧
    (State.afterShift queued s).mail = s.mail ∧ (State.afterShift queued s).resetLine = s.resetLine ∧
    (State.afterShift queued s).free = s.free := by
  simp only [State.afterShift]; (repeat' split) <;> simp

@[simp] theorem State.takeGear_frame (x : Option Gear) (s : State) :
    (State.takeGear x s).pending = s.pending ∧ (State.takeGear x s).profile = s.profile ∧
    (State.takeGear x s).slurry = s.slurry ∧ (State.takeGear x s).marks = s.marks ∧
    (State.takeGear x s).ring = s.ring ∧ (State.takeGear x s).seq = s.seq ∧ (State.takeGear x s).limits = s.limits ∧
    (State.takeGear x s).env = s.env ∧ (State.takeGear x s).masks = s.masks ∧ (State.takeGear x s).faults = s.faults ∧
    (State.takeGear x s).ctl = s.ctl ∧ (State.takeGear x s).sup = s.sup ∧ (State.takeGear x s).links = s.links ∧
    (State.takeGear x s).resetLine = s.resetLine ∧ (State.takeGear x s).free = s.free := by
  simp only [State.takeGear]; (repeat' split) <;> simp

@[simp] theorem State.onContext_frame (f : Context → Context) (s : State) :
    (State.onContext f s).pending = s.pending ∧ (State.onContext f s).profile = s.profile ∧
    (State.onContext f s).slurry = s.slurry ∧ (State.onContext f s).kelly = s.kelly ∧
    (State.onContext f s).marks = s.marks ∧ (State.onContext f s).ring = s.ring ∧ (State.onContext f s).seq = s.seq ∧
    (State.onContext f s).limits = s.limits ∧ (State.onContext f s).axes = s.axes ∧
    (State.onContext f s).env = s.env ∧ (State.onContext f s).masks = s.masks ∧ (State.onContext f s).ctl = s.ctl ∧
    (State.onContext f s).sup = s.sup ∧ (State.onContext f s).links = s.links ∧ (State.onContext f s).mail = s.mail ∧
    (State.onContext f s).resetLine = s.resetLine ∧ (State.onContext f s).free = s.free := by
  simp only [State.onContext]; (repeat' split) <;> simp

@[simp] theorem State.interrupt_frame (s : State) :
    (State.interrupt s).pending = s.pending ∧ (State.interrupt s).profile = s.profile ∧
    (State.interrupt s).slurry = s.slurry ∧ (State.interrupt s).marks = s.marks ∧ (State.interrupt s).ring = s.ring ∧
    (State.interrupt s).seq = s.seq ∧ (State.interrupt s).limits = s.limits ∧ (State.interrupt s).axes = s.axes ∧
    (State.interrupt s).env = s.env ∧ (State.interrupt s).masks = s.masks ∧ (State.interrupt s).faults = s.faults ∧
    (State.interrupt s).sup = s.sup ∧ (State.interrupt s).links = s.links ∧ (State.interrupt s).mail = s.mail ∧
    (State.interrupt s).resetLine = s.resetLine ∧ (State.interrupt s).free = s.free := by
  simp only [State.interrupt]; (repeat' split) <;> simp

@[simp] theorem State.enterService_frame (st : ControllerState) (o : ChannelOrder) (r : Option ReactionMsg) (s : State) :
    (State.enterService st o r s).pending = s.pending ∧ (State.enterService st o r s).profile = s.profile ∧
    (State.enterService st o r s).slurry = s.slurry ∧ (State.enterService st o r s).marks = s.marks ∧
    (State.enterService st o r s).ring = s.ring ∧ (State.enterService st o r s).seq = s.seq ∧
    (State.enterService st o r s).limits = s.limits ∧ (State.enterService st o r s).axes = s.axes ∧
    (State.enterService st o r s).env = s.env ∧ (State.enterService st o r s).masks = s.masks ∧
    (State.enterService st o r s).sup = s.sup ∧ (State.enterService st o r s).links = s.links ∧
    (State.enterService st o r s).resetLine = s.resetLine ∧ (State.enterService st o r s).free = s.free := by
  simp only [State.enterService]; (repeat' split) <;> simp

@[simp] theorem State.enterFromClear_frame (r : Resolved) (raised : FaultVector) (depth : Option Int) (s : State) :
    (State.enterFromClear r raised depth s).pending = s.pending ∧
    (State.enterFromClear r raised depth s).profile = s.profile ∧
    (State.enterFromClear r raised depth s).slurry = s.slurry ∧
    (State.enterFromClear r raised depth s).marks = s.marks ∧ (State.enterFromClear r raised depth s).ring = s.ring ∧
    (State.enterFromClear r raised depth s).seq = s.seq ∧ (State.enterFromClear r raised depth s).limits = s.limits ∧
    (State.enterFromClear r raised depth s).axes = s.axes ∧ (State.enterFromClear r raised depth s).env = s.env ∧
    (State.enterFromClear r raised depth s).masks = s.masks ∧ (State.enterFromClear r raised depth s).sup = s.sup ∧
    (State.enterFromClear r raised depth s).links = s.links ∧
    (State.enterFromClear r raised depth s).resetLine = s.resetLine ∧
    (State.enterFromClear r raised depth s).free = s.free := by
  simp only [State.enterFromClear]; (repeat' split) <;> simp

@[simp] theorem State.enterCompound_frame (r : Resolved) (raised : FaultVector) (s : State) :
    (State.enterCompound r raised s).pending = s.pending ∧ (State.enterCompound r raised s).profile = s.profile ∧
    (State.enterCompound r raised s).slurry = s.slurry ∧ (State.enterCompound r raised s).marks = s.marks ∧
    (State.enterCompound r raised s).ring = s.ring ∧ (State.enterCompound r raised s).seq = s.seq ∧
    (State.enterCompound r raised s).limits = s.limits ∧ (State.enterCompound r raised s).axes = s.axes ∧
    (State.enterCompound r raised s).env = s.env ∧ (State.enterCompound r raised s).masks = s.masks ∧
    (State.enterCompound r raised s).sup = s.sup ∧ (State.enterCompound r raised s).resetLine = s.resetLine ∧
    (State.enterCompound r raised s).free = s.free := by
  simp only [State.enterCompound]; (repeat' split) <;> simp

@[simp] theorem State.enterCut_frame (r : Resolved) (raised : FaultVector) (s : State) :
    (State.enterCut r raised s).pending = s.pending ∧ (State.enterCut r raised s).profile = s.profile ∧
    (State.enterCut r raised s).slurry = s.slurry ∧ (State.enterCut r raised s).marks = s.marks ∧
    (State.enterCut r raised s).ring = s.ring ∧ (State.enterCut r raised s).seq = s.seq ∧
    (State.enterCut r raised s).limits = s.limits ∧ (State.enterCut r raised s).axes = s.axes ∧
    (State.enterCut r raised s).env = s.env ∧ (State.enterCut r raised s).masks = s.masks ∧
    (State.enterCut r raised s).sup = s.sup ∧ (State.enterCut r raised s).links = s.links ∧
    (State.enterCut r raised s).resetLine = s.resetLine ∧ (State.enterCut r raised s).free = s.free := by
  simp only [State.enterCut]; (repeat' split) <;> simp

@[simp] theorem State.enterLockout_frame (raised : FaultVector) (depth : Option Int) (s : State) :
    (State.enterLockout raised depth s).pending = s.pending ∧
    (State.enterLockout raised depth s).profile = s.profile ∧ (State.enterLockout raised depth s).slurry = s.slurry ∧
    (State.enterLockout raised depth s).marks = s.marks ∧ (State.enterLockout raised depth s).ring = s.ring ∧
    (State.enterLockout raised depth s).seq = s.seq ∧ (State.enterLockout raised depth s).limits = s.limits ∧
    (State.enterLockout raised depth s).axes = s.axes ∧ (State.enterLockout raised depth s).env = s.env ∧
    (State.enterLockout raised depth s).masks = s.masks ∧ (State.enterLockout raised depth s).sup = s.sup ∧
    (State.enterLockout raised depth s).resetLine = s.resetLine ∧
    (State.enterLockout raised depth s).free = s.free := by
  simp only [State.enterLockout]; (repeat' split) <;> simp

@[simp] theorem State.react_frame (r : Resolved) (raised : FaultVector) (depth : Option Int) (s : State) :
    (State.react r raised depth s).pending = s.pending ∧ (State.react r raised depth s).profile = s.profile ∧
    (State.react r raised depth s).slurry = s.slurry ∧ (State.react r raised depth s).marks = s.marks ∧
    (State.react r raised depth s).ring = s.ring ∧ (State.react r raised depth s).seq = s.seq ∧
    (State.react r raised depth s).limits = s.limits ∧ (State.react r raised depth s).axes = s.axes ∧
    (State.react r raised depth s).env = s.env ∧ (State.react r raised depth s).masks = s.masks ∧
    (State.react r raised depth s).sup = s.sup ∧ (State.react r raised depth s).resetLine = s.resetLine ∧
    (State.react r raised depth s).free = s.free := by
  simp only [State.react]; (repeat' split) <;> simp

@[simp] theorem State.takeRaise_frame (x : Raise) (s : State) :
    (State.takeRaise x s).pending = s.pending ∧ (State.takeRaise x s).profile = s.profile ∧
    (State.takeRaise x s).slurry = s.slurry ∧ (State.takeRaise x s).marks = s.marks ∧
    (State.takeRaise x s).ring = s.ring ∧ (State.takeRaise x s).seq = s.seq ∧
    (State.takeRaise x s).limits = s.limits ∧ (State.takeRaise x s).axes = s.axes ∧
    (State.takeRaise x s).env = s.env ∧ (State.takeRaise x s).masks = s.masks ∧ (State.takeRaise x s).sup = s.sup ∧
    (State.takeRaise x s).resetLine = s.resetLine ∧ (State.takeRaise x s).free = s.free := by
  simp only [State.takeRaise]; (repeat' split) <;> simp

@[simp] theorem State.clearController_frame (s : State) :
    (State.clearController s).pending = s.pending ∧ (State.clearController s).profile = s.profile ∧
    (State.clearController s).slurry = s.slurry ∧ (State.clearController s).kelly = s.kelly ∧
    (State.clearController s).marks = s.marks ∧ (State.clearController s).ring = s.ring ∧
    (State.clearController s).seq = s.seq ∧ (State.clearController s).limits = s.limits ∧
    (State.clearController s).axes = s.axes ∧ (State.clearController s).env = s.env ∧
    (State.clearController s).masks = s.masks ∧ (State.clearController s).ctl = s.ctl ∧
    (State.clearController s).sup = s.sup ∧ (State.clearController s).mail = s.mail ∧
    (State.clearController s).resetLine = s.resetLine ∧ (State.clearController s).free = s.free := by
  simp only [State.clearController]; (repeat' split) <;> simp

@[simp] theorem State.endReaction_frame (s : State) :
    (State.endReaction s).pending = s.pending ∧ (State.endReaction s).profile = s.profile ∧
    (State.endReaction s).slurry = s.slurry ∧ (State.endReaction s).kelly = s.kelly ∧
    (State.endReaction s).marks = s.marks ∧ (State.endReaction s).ring = s.ring ∧ (State.endReaction s).seq = s.seq ∧
    (State.endReaction s).limits = s.limits ∧ (State.endReaction s).axes = s.axes ∧
    (State.endReaction s).env = s.env ∧ (State.endReaction s).masks = s.masks ∧ (State.endReaction s).ctl = s.ctl ∧
    (State.endReaction s).sup = s.sup ∧ (State.endReaction s).resetLine = s.resetLine ∧
    (State.endReaction s).free = s.free := by
  simp only [State.endReaction]; (repeat' split) <;> simp

/-- The channels' orders, taken in turn, write the channels alone. -/
@[simp] theorem foldOrders_frame (l : List ChannelOrder) : ∀ s : State,
    (l.foldl (fun s o => s.takeOrder o) s).pending = s.pending ∧ (l.foldl (fun s o => s.takeOrder o) s).profile = s.profile ∧
    (l.foldl (fun s o => s.takeOrder o) s).slurry = s.slurry ∧ (l.foldl (fun s o => s.takeOrder o) s).kelly = s.kelly ∧
    (l.foldl (fun s o => s.takeOrder o) s).marks = s.marks ∧ (l.foldl (fun s o => s.takeOrder o) s).ring = s.ring ∧
    (l.foldl (fun s o => s.takeOrder o) s).seq = s.seq ∧ (l.foldl (fun s o => s.takeOrder o) s).limits = s.limits ∧
    (l.foldl (fun s o => s.takeOrder o) s).env = s.env ∧ (l.foldl (fun s o => s.takeOrder o) s).masks = s.masks ∧
    (l.foldl (fun s o => s.takeOrder o) s).faults = s.faults ∧ (l.foldl (fun s o => s.takeOrder o) s).ctl = s.ctl ∧
    (l.foldl (fun s o => s.takeOrder o) s).sup = s.sup ∧ (l.foldl (fun s o => s.takeOrder o) s).links = s.links ∧
    (l.foldl (fun s o => s.takeOrder o) s).mail = s.mail ∧
    (l.foldl (fun s o => s.takeOrder o) s).resetLine = s.resetLine ∧ (l.foldl (fun s o => s.takeOrder o) s).free = s.free := by
  induction l with
  | nil => intro s; simp
  | cons o l ih => intro s; simp [ih]


@[simp] theorem State.takeOrders_frame (s : State) :
    (State.takeOrders s).pending = s.pending ∧ (State.takeOrders s).profile = s.profile ∧
    (State.takeOrders s).slurry = s.slurry ∧ (State.takeOrders s).kelly = s.kelly ∧
    (State.takeOrders s).marks = s.marks ∧ (State.takeOrders s).ring = s.ring ∧ (State.takeOrders s).seq = s.seq ∧
    (State.takeOrders s).limits = s.limits ∧ (State.takeOrders s).env = s.env ∧ (State.takeOrders s).masks = s.masks ∧
    (State.takeOrders s).faults = s.faults ∧ (State.takeOrders s).ctl = s.ctl ∧ (State.takeOrders s).sup = s.sup ∧
    (State.takeOrders s).links = s.links ∧ (State.takeOrders s).resetLine = s.resetLine ∧
    (State.takeOrders s).free = s.free := by
  simp only [State.takeOrders]; (repeat' split) <;> simp

@[simp] theorem State.restoreCut_frame (s : State) :
    (State.restoreCut s).pending = s.pending ∧ (State.restoreCut s).profile = s.profile ∧
    (State.restoreCut s).slurry = s.slurry ∧ (State.restoreCut s).kelly = s.kelly ∧
    (State.restoreCut s).marks = s.marks ∧ (State.restoreCut s).ring = s.ring ∧ (State.restoreCut s).seq = s.seq ∧
    (State.restoreCut s).limits = s.limits ∧ (State.restoreCut s).env = s.env ∧ (State.restoreCut s).masks = s.masks ∧
    (State.restoreCut s).ctl = s.ctl ∧ (State.restoreCut s).sup = s.sup ∧
    (State.restoreCut s).resetLine = s.resetLine ∧ (State.restoreCut s).free = s.free := by
  simp only [State.restoreCut]; (repeat' split) <;> simp

@[simp] theorem State.stopUngoverned_frame (s : State) :
    (State.stopUngoverned s).pending = s.pending ∧ (State.stopUngoverned s).profile = s.profile ∧
    (State.stopUngoverned s).slurry = s.slurry ∧ (State.stopUngoverned s).kelly = s.kelly ∧
    (State.stopUngoverned s).marks = s.marks ∧ (State.stopUngoverned s).ring = s.ring ∧ (State.stopUngoverned s).seq = s.seq ∧
    (State.stopUngoverned s).limits = s.limits ∧ (State.stopUngoverned s).env = s.env ∧ (State.stopUngoverned s).masks = s.masks ∧
    (State.stopUngoverned s).faults = s.faults ∧ (State.stopUngoverned s).ctl = s.ctl ∧ (State.stopUngoverned s).sup = s.sup ∧
    (State.stopUngoverned s).links = s.links ∧ (State.stopUngoverned s).mail = s.mail ∧
    (State.stopUngoverned s).resetLine = s.resetLine ∧ (State.stopUngoverned s).free = s.free := by
  simp only [State.stopUngoverned]; (repeat' split) <;> simp

@[simp] theorem State.meet_frame (m : ReactionMsg) (s : State) :
    (State.meet m s).pending = s.pending ∧ (State.meet m s).profile = s.profile ∧ (State.meet m s).slurry = s.slurry ∧
    (State.meet m s).marks = s.marks ∧ (State.meet m s).ring = s.ring ∧
    (State.meet m s).limits = s.limits ∧ (State.meet m s).env = s.env ∧ (State.meet m s).masks = s.masks ∧
    (State.meet m s).faults = s.faults ∧ (State.meet m s).ctl = s.ctl ∧ (State.meet m s).sup = s.sup ∧
    (State.meet m s).mail = s.mail ∧ (State.meet m s).resetLine = s.resetLine ∧ (State.meet m s).free = s.free := by
  simp only [State.meet]; (repeat' split) <;> simp

@[simp] theorem State.meetMode_frame (m : UnitMode) (s : State) :
    (State.meetMode m s).pending = s.pending ∧ (State.meetMode m s).profile = s.profile ∧
    (State.meetMode m s).slurry = s.slurry ∧ (State.meetMode m s).marks = s.marks ∧ (State.meetMode m s).env = s.env ∧
    (State.meetMode m s).masks = s.masks ∧ (State.meetMode m s).faults = s.faults ∧ (State.meetMode m s).sup = s.sup ∧
    (State.meetMode m s).resetLine = s.resetLine ∧ (State.meetMode m s).free = s.free := by
  simp only [State.meetMode]; (repeat' split) <;> simp

@[simp] theorem State.abortStroke_frame (s : State) :
    (State.abortStroke s).pending = s.pending ∧ (State.abortStroke s).profile = s.profile ∧
    (State.abortStroke s).slurry = s.slurry ∧ (State.abortStroke s).marks = s.marks ∧
    (State.abortStroke s).ring = s.ring ∧ (State.abortStroke s).limits = s.limits ∧
    (State.abortStroke s).env = s.env ∧ (State.abortStroke s).masks = s.masks ∧
    (State.abortStroke s).faults = s.faults ∧ (State.abortStroke s).ctl = s.ctl ∧ (State.abortStroke s).sup = s.sup ∧
    (State.abortStroke s).links = s.links ∧ (State.abortStroke s).mail = s.mail ∧
    (State.abortStroke s).resetLine = s.resetLine ∧ (State.abortStroke s).free = s.free := by
  simp only [State.abortStroke]; (repeat' split) <;> simp

@[simp] theorem State.markAction_frame (hold end_ : Bool) (s : State) :
    (State.markAction hold end_ s).pending = s.pending ∧ (State.markAction hold end_ s).profile = s.profile ∧
    (State.markAction hold end_ s).slurry = s.slurry ∧ (State.markAction hold end_ s).marks = s.marks ∧
    (State.markAction hold end_ s).ring = s.ring ∧ (State.markAction hold end_ s).env = s.env ∧
    (State.markAction hold end_ s).masks = s.masks ∧ (State.markAction hold end_ s).faults = s.faults ∧
    (State.markAction hold end_ s).sup = s.sup ∧ (State.markAction hold end_ s).resetLine = s.resetLine ∧
    (State.markAction hold end_ s).free = s.free := by
  simp only [State.markAction]; (repeat' split) <;> simp

@[simp] theorem State.testMarks_frame (c : DepthChange) (s : State) :
    (State.testMarks c s).pending = s.pending ∧ (State.testMarks c s).profile = s.profile ∧
    (State.testMarks c s).slurry = s.slurry ∧ (State.testMarks c s).ring = s.ring ∧
    (State.testMarks c s).env = s.env ∧ (State.testMarks c s).masks = s.masks ∧
    (State.testMarks c s).faults = s.faults ∧ (State.testMarks c s).sup = s.sup ∧
    (State.testMarks c s).resetLine = s.resetLine ∧ (State.testMarks c s).free = s.free := by
  simp only [State.testMarks]; (repeat' split) <;> simp

@[simp] theorem State.beginRelief_frame (t : Stroke) (s : State) :
    (State.beginRelief t s).pending = s.pending ∧ (State.beginRelief t s).profile = s.profile ∧
    (State.beginRelief t s).slurry = s.slurry ∧ (State.beginRelief t s).marks = s.marks ∧
    (State.beginRelief t s).ring = s.ring ∧ (State.beginRelief t s).env = s.env ∧
    (State.beginRelief t s).masks = s.masks ∧ (State.beginRelief t s).faults = s.faults ∧
    (State.beginRelief t s).sup = s.sup ∧ (State.beginRelief t s).resetLine = s.resetLine ∧
    (State.beginRelief t s).free = s.free := by
  simp only [State.beginRelief]; (repeat' split) <;> simp

@[simp] theorem State.takeStall_frame (s : State) :
    (State.takeStall s).pending = s.pending ∧ (State.takeStall s).profile = s.profile ∧
    (State.takeStall s).slurry = s.slurry ∧ (State.takeStall s).marks = s.marks ∧ (State.takeStall s).ring = s.ring ∧
    (State.takeStall s).env = s.env ∧ (State.takeStall s).masks = s.masks ∧ (State.takeStall s).faults = s.faults ∧
    (State.takeStall s).sup = s.sup ∧ (State.takeStall s).resetLine = s.resetLine ∧
    (State.takeStall s).free = s.free := by
  simp only [State.takeStall]; (repeat' split) <;> simp

@[simp] theorem State.takeLimitSeq_frame (w : LimitSet) (s : State) :
    (State.takeLimitSeq w s).pending = s.pending ∧ (State.takeLimitSeq w s).profile = s.profile ∧
    (State.takeLimitSeq w s).slurry = s.slurry ∧ (State.takeLimitSeq w s).kelly = s.kelly ∧
    (State.takeLimitSeq w s).marks = s.marks ∧ (State.takeLimitSeq w s).ring = s.ring ∧
    (State.takeLimitSeq w s).limits = s.limits ∧ (State.takeLimitSeq w s).env = s.env ∧
    (State.takeLimitSeq w s).masks = s.masks ∧ (State.takeLimitSeq w s).faults = s.faults ∧
    (State.takeLimitSeq w s).ctl = s.ctl ∧ (State.takeLimitSeq w s).sup = s.sup ∧
    (State.takeLimitSeq w s).links = s.links ∧ (State.takeLimitSeq w s).mail = s.mail ∧
    (State.takeLimitSeq w s).resetLine = s.resetLine ∧ (State.takeLimitSeq w s).free = s.free := by
  simp only [State.takeLimitSeq]; (repeat' split) <;> simp

@[simp] theorem State.takeLimitAxes_frame (w : LimitSet) (s : State) :
    (State.takeLimitAxes w s).pending = s.pending ∧ (State.takeLimitAxes w s).profile = s.profile ∧
    (State.takeLimitAxes w s).slurry = s.slurry ∧ (State.takeLimitAxes w s).kelly = s.kelly ∧
    (State.takeLimitAxes w s).marks = s.marks ∧ (State.takeLimitAxes w s).ring = s.ring ∧
    (State.takeLimitAxes w s).seq = s.seq ∧ (State.takeLimitAxes w s).env = s.env ∧
    (State.takeLimitAxes w s).masks = s.masks ∧ (State.takeLimitAxes w s).faults = s.faults ∧
    (State.takeLimitAxes w s).ctl = s.ctl ∧ (State.takeLimitAxes w s).sup = s.sup ∧
    (State.takeLimitAxes w s).links = s.links ∧ (State.takeLimitAxes w s).mail = s.mail ∧
    (State.takeLimitAxes w s).resetLine = s.resetLine ∧ (State.takeLimitAxes w s).free = s.free := by
  simp only [State.takeLimitAxes]; (repeat' split) <;> simp

@[simp] theorem State.onLink_frame (l : Link) (f : LinkCtl → LinkCtl) (s : State) :
    (State.onLink l f s).pending = s.pending ∧ (State.onLink l f s).profile = s.profile ∧
    (State.onLink l f s).slurry = s.slurry ∧ (State.onLink l f s).kelly = s.kelly ∧
    (State.onLink l f s).marks = s.marks ∧ (State.onLink l f s).ring = s.ring ∧ (State.onLink l f s).seq = s.seq ∧
    (State.onLink l f s).limits = s.limits ∧ (State.onLink l f s).axes = s.axes ∧ (State.onLink l f s).env = s.env ∧
    (State.onLink l f s).masks = s.masks ∧ (State.onLink l f s).faults = s.faults ∧ (State.onLink l f s).ctl = s.ctl ∧
    (State.onLink l f s).sup = s.sup ∧ (State.onLink l f s).mail = s.mail ∧
    (State.onLink l f s).resetLine = s.resetLine ∧ (State.onLink l f s).free = s.free := by
  simp only [State.onLink]; (repeat' split) <;> simp

@[simp] theorem State.raiseLoss_frame (m : UnitMode) (s : State) :
    (State.raiseLoss m s).pending = s.pending ∧ (State.raiseLoss m s).profile = s.profile ∧
    (State.raiseLoss m s).slurry = s.slurry ∧ (State.raiseLoss m s).kelly = s.kelly ∧
    (State.raiseLoss m s).marks = s.marks ∧ (State.raiseLoss m s).ring = s.ring ∧ (State.raiseLoss m s).seq = s.seq ∧
    (State.raiseLoss m s).limits = s.limits ∧ (State.raiseLoss m s).axes = s.axes ∧
    (State.raiseLoss m s).masks = s.masks ∧ (State.raiseLoss m s).faults = s.faults ∧
    (State.raiseLoss m s).ctl = s.ctl ∧ (State.raiseLoss m s).sup = s.sup ∧ (State.raiseLoss m s).links = s.links ∧
    (State.raiseLoss m s).resetLine = s.resetLine ∧ (State.raiseLoss m s).free = s.free := by
  simp only [State.raiseLoss]; (repeat' split) <;> simp

@[simp] theorem State.testStop_frame (st : Stability) (s : State) :
    (State.testStop st s).pending = s.pending ∧ (State.testStop st s).profile = s.profile ∧
    (State.testStop st s).slurry = s.slurry ∧ (State.testStop st s).kelly = s.kelly ∧
    (State.testStop st s).marks = s.marks ∧ (State.testStop st s).ring = s.ring ∧ (State.testStop st s).seq = s.seq ∧
    (State.testStop st s).limits = s.limits ∧ (State.testStop st s).axes = s.axes ∧
    (State.testStop st s).masks = s.masks ∧ (State.testStop st s).faults = s.faults ∧
    (State.testStop st s).ctl = s.ctl ∧ (State.testStop st s).sup = s.sup ∧ (State.testStop st s).links = s.links ∧
    (State.testStop st s).resetLine = s.resetLine ∧ (State.testStop st s).free = s.free := by
  simp only [State.testStop]; (repeat' split) <;> simp

@[simp] theorem State.acceptEnvelope_frame (r : EnvRecord) (s : State) :
    (State.acceptEnvelope r s).pending = s.pending ∧ (State.acceptEnvelope r s).profile = s.profile ∧
    (State.acceptEnvelope r s).slurry = s.slurry ∧ (State.acceptEnvelope r s).kelly = s.kelly ∧
    (State.acceptEnvelope r s).marks = s.marks ∧ (State.acceptEnvelope r s).ring = s.ring ∧
    (State.acceptEnvelope r s).seq = s.seq ∧ (State.acceptEnvelope r s).limits = s.limits ∧
    (State.acceptEnvelope r s).masks = s.masks ∧ (State.acceptEnvelope r s).faults = s.faults ∧
    (State.acceptEnvelope r s).ctl = s.ctl ∧ (State.acceptEnvelope r s).sup = s.sup ∧
    (State.acceptEnvelope r s).resetLine = s.resetLine ∧ (State.acceptEnvelope r s).free = s.free := by
  simp only [State.acceptEnvelope]; (repeat' split) <;> simp

@[simp] theorem State.busBusy_frame (l : Link) (s : State) :
    (State.busBusy l s).pending = s.pending ∧ (State.busBusy l s).profile = s.profile ∧
    (State.busBusy l s).slurry = s.slurry ∧ (State.busBusy l s).kelly = s.kelly ∧
    (State.busBusy l s).marks = s.marks ∧ (State.busBusy l s).ring = s.ring ∧
    (State.busBusy l s).seq = s.seq ∧ (State.busBusy l s).limits = s.limits ∧
    (State.busBusy l s).axes = s.axes ∧ (State.busBusy l s).env = s.env ∧
    (State.busBusy l s).masks = s.masks ∧ (State.busBusy l s).faults = s.faults ∧
    (State.busBusy l s).ctl = s.ctl ∧ (State.busBusy l s).sup = s.sup ∧
    (State.busBusy l s).mail = s.mail ∧ (State.busBusy l s).resetLine = s.resetLine ∧
    (State.busBusy l s).free = s.free := by
  simp only [State.busBusy]; (repeat' split) <;> simp

@[simp] theorem State.takeEnvelope_frame (l : Link) (f : Frame) (s : State) :
    (State.takeEnvelope l f s).pending = s.pending ∧ (State.takeEnvelope l f s).profile = s.profile ∧
    (State.takeEnvelope l f s).slurry = s.slurry ∧ (State.takeEnvelope l f s).kelly = s.kelly ∧
    (State.takeEnvelope l f s).marks = s.marks ∧ (State.takeEnvelope l f s).ring = s.ring ∧
    (State.takeEnvelope l f s).seq = s.seq ∧ (State.takeEnvelope l f s).limits = s.limits ∧
    (State.takeEnvelope l f s).masks = s.masks ∧ (State.takeEnvelope l f s).faults = s.faults ∧
    (State.takeEnvelope l f s).ctl = s.ctl ∧ (State.takeEnvelope l f s).sup = s.sup ∧
    (State.takeEnvelope l f s).resetLine = s.resetLine ∧ (State.takeEnvelope l f s).free = s.free := by
  simp only [State.takeEnvelope]; (repeat' split) <;> simp

@[simp] theorem State.holdRequest_frame (l : Link) (q : Request) (s : State) :
    (State.holdRequest l q s).pending = s.pending ∧ (State.holdRequest l q s).profile = s.profile ∧
    (State.holdRequest l q s).slurry = s.slurry ∧ (State.holdRequest l q s).kelly = s.kelly ∧
    (State.holdRequest l q s).marks = s.marks ∧ (State.holdRequest l q s).ring = s.ring ∧
    (State.holdRequest l q s).seq = s.seq ∧ (State.holdRequest l q s).limits = s.limits ∧
    (State.holdRequest l q s).axes = s.axes ∧ (State.holdRequest l q s).env = s.env ∧
    (State.holdRequest l q s).masks = s.masks ∧ (State.holdRequest l q s).faults = s.faults ∧
    (State.holdRequest l q s).ctl = s.ctl ∧ (State.holdRequest l q s).sup = s.sup ∧
    (State.holdRequest l q s).mail = s.mail ∧ (State.holdRequest l q s).resetLine = s.resetLine ∧
    (State.holdRequest l q s).free = s.free := by
  simp only [State.holdRequest]; (repeat' split) <;> simp

@[simp] theorem State.receive_frame (l : Link) (f : Frame) (s : State) :
    (State.receive l f s).pending = s.pending ∧ (State.receive l f s).profile = s.profile ∧
    (State.receive l f s).slurry = s.slurry ∧ (State.receive l f s).kelly = s.kelly ∧
    (State.receive l f s).marks = s.marks ∧ (State.receive l f s).ring = s.ring ∧ (State.receive l f s).seq = s.seq ∧
    (State.receive l f s).limits = s.limits ∧ (State.receive l f s).masks = s.masks ∧
    (State.receive l f s).faults = s.faults ∧ (State.receive l f s).ctl = s.ctl ∧ (State.receive l f s).sup = s.sup ∧
    (State.receive l f s).resetLine = s.resetLine ∧ (State.receive l f s).free = s.free := by
  simp only [State.receive]; (repeat' split) <;> simp

@[simp] theorem State.answerRead_frame (l : Link) (q : Request) (s : State) :
    (State.answerRead l q s).pending = s.pending ∧ (State.answerRead l q s).profile = s.profile ∧
    (State.answerRead l q s).slurry = s.slurry ∧ (State.answerRead l q s).kelly = s.kelly ∧
    (State.answerRead l q s).marks = s.marks ∧ (State.answerRead l q s).ring = s.ring ∧
    (State.answerRead l q s).seq = s.seq ∧ (State.answerRead l q s).limits = s.limits ∧
    (State.answerRead l q s).axes = s.axes ∧ (State.answerRead l q s).env = s.env ∧
    (State.answerRead l q s).masks = s.masks ∧ (State.answerRead l q s).faults = s.faults ∧
    (State.answerRead l q s).ctl = s.ctl ∧ (State.answerRead l q s).sup = s.sup ∧
    (State.answerRead l q s).mail = s.mail ∧ (State.answerRead l q s).resetLine = s.resetLine ∧
    (State.answerRead l q s).free = s.free := by
  simp only [State.answerRead]; (repeat' split) <;> simp

@[simp] theorem State.sendNotice_frame (l : Link) (s : State) :
    (State.sendNotice l s).pending = s.pending ∧ (State.sendNotice l s).profile = s.profile ∧
    (State.sendNotice l s).slurry = s.slurry ∧ (State.sendNotice l s).kelly = s.kelly ∧
    (State.sendNotice l s).marks = s.marks ∧ (State.sendNotice l s).ring = s.ring ∧
    (State.sendNotice l s).seq = s.seq ∧ (State.sendNotice l s).limits = s.limits ∧
    (State.sendNotice l s).axes = s.axes ∧ (State.sendNotice l s).env = s.env ∧
    (State.sendNotice l s).masks = s.masks ∧ (State.sendNotice l s).faults = s.faults ∧
    (State.sendNotice l s).ctl = s.ctl ∧ (State.sendNotice l s).sup = s.sup ∧ (State.sendNotice l s).mail = s.mail ∧
    (State.sendNotice l s).resetLine = s.resetLine ∧ (State.sendNotice l s).free = s.free := by
  simp only [State.sendNotice]; (repeat' split) <;> simp

@[simp] theorem State.returnLink_frame (l : Link) (s : State) :
    (State.returnLink l s).pending = s.pending ∧ (State.returnLink l s).profile = s.profile ∧
    (State.returnLink l s).slurry = s.slurry ∧ (State.returnLink l s).kelly = s.kelly ∧
    (State.returnLink l s).marks = s.marks ∧ (State.returnLink l s).ring = s.ring ∧
    (State.returnLink l s).seq = s.seq ∧ (State.returnLink l s).limits = s.limits ∧
    (State.returnLink l s).axes = s.axes ∧ (State.returnLink l s).env = s.env ∧
    (State.returnLink l s).masks = s.masks ∧ (State.returnLink l s).faults = s.faults ∧
    (State.returnLink l s).ctl = s.ctl ∧ (State.returnLink l s).sup = s.sup ∧ (State.returnLink l s).mail = s.mail ∧
    (State.returnLink l s).resetLine = s.resetLine ∧ (State.returnLink l s).free = s.free := by
  simp only [State.returnLink]; (repeat' split) <;> simp

@[simp] theorem State.leaveIfCommitted_frame (s : State) :
    (State.leaveIfCommitted s).pending = s.pending ∧ (State.leaveIfCommitted s).profile = s.profile ∧
    (State.leaveIfCommitted s).slurry = s.slurry ∧ (State.leaveIfCommitted s).marks = s.marks ∧
    (State.leaveIfCommitted s).ring = s.ring ∧ (State.leaveIfCommitted s).seq = s.seq ∧
    (State.leaveIfCommitted s).limits = s.limits ∧ (State.leaveIfCommitted s).env = s.env ∧
    (State.leaveIfCommitted s).masks = s.masks ∧ (State.leaveIfCommitted s).faults = s.faults ∧
    (State.leaveIfCommitted s).sup = s.sup ∧ (State.leaveIfCommitted s).resetLine = s.resetLine ∧
    (State.leaveIfCommitted s).free = s.free := by
  simp only [State.leaveIfCommitted]; (repeat' split) <;> simp

@[simp] theorem State.commit_frame (s : State) :
    (State.commit s).pending = s.pending ∧ (State.commit s).slurry = s.slurry ∧ (State.commit s).marks = s.marks ∧
    (State.commit s).ring = s.ring ∧ (State.commit s).seq = s.seq ∧ (State.commit s).masks = s.masks ∧
    (State.commit s).faults = s.faults ∧ (State.commit s).sup = s.sup ∧ (State.commit s).resetLine = s.resetLine ∧
    (State.commit s).free = s.free := by
  simp only [State.commit]; (repeat' split) <;> simp

@[simp] theorem State.reconfigured_frame (s : State) :
    (State.reconfigured s).pending = s.pending ∧ (State.reconfigured s).slurry = s.slurry ∧
    (State.reconfigured s).marks = s.marks ∧ (State.reconfigured s).ring = s.ring ∧
    (State.reconfigured s).env = s.env ∧ (State.reconfigured s).masks = s.masks ∧ (State.reconfigured s).sup = s.sup ∧
    (State.reconfigured s).resetLine = s.resetLine ∧ (State.reconfigured s).free = s.free := by
  simp only [State.reconfigured]; (repeat' split) <;> simp

@[simp] theorem State.tickChannel_frame (x : Axis) (s : State) :
    (State.tickChannel x s).pending = s.pending ∧ (State.tickChannel x s).profile = s.profile ∧
    (State.tickChannel x s).slurry = s.slurry ∧ (State.tickChannel x s).marks = s.marks ∧
    (State.tickChannel x s).ring = s.ring ∧ (State.tickChannel x s).limits = s.limits ∧
    (State.tickChannel x s).masks = s.masks ∧ (State.tickChannel x s).faults = s.faults ∧
    (State.tickChannel x s).ctl = s.ctl ∧ (State.tickChannel x s).mail = s.mail ∧
    (State.tickChannel x s).resetLine = s.resetLine ∧ (State.tickChannel x s).free = s.free := by
  simp only [State.tickChannel]; (repeat' split) <;> simp

@[simp] theorem State.tick_frame (s : State) :
    (State.tick s).pending = s.pending ∧ (State.tick s).profile = s.profile ∧ (State.tick s).slurry = s.slurry ∧
    (State.tick s).marks = s.marks ∧ (State.tick s).ring = s.ring ∧ (State.tick s).limits = s.limits ∧
    (State.tick s).masks = s.masks ∧ (State.tick s).faults = s.faults ∧ (State.tick s).ctl = s.ctl ∧
    (State.tick s).mail = s.mail ∧ (State.tick s).resetLine = s.resetLine ∧ (State.tick s).free = s.free := by
  simp only [State.tick]; (repeat' split) <;> simp

@[simp] theorem State.chosen_frame (s : State) :
    (State.chosen s).pending = s.pending ∧ (State.chosen s).profile = s.profile ∧ (State.chosen s).slurry = s.slurry ∧
    (State.chosen s).kelly = s.kelly ∧ (State.chosen s).marks = s.marks ∧ (State.chosen s).ring = s.ring ∧
    (State.chosen s).seq = s.seq ∧ (State.chosen s).limits = s.limits ∧ (State.chosen s).axes = s.axes ∧
    (State.chosen s).env = s.env ∧ (State.chosen s).masks = s.masks ∧ (State.chosen s).faults = s.faults ∧
    (State.chosen s).ctl = s.ctl ∧ (State.chosen s).sup = s.sup ∧ (State.chosen s).links = s.links ∧
    (State.chosen s).mail = s.mail ∧ (State.chosen s).resetLine = s.resetLine := by
  simp only [State.chosen]; (repeat' split) <;> simp

@[simp] theorem State.writeProfile_frame (l : Link) (q : Request) (fits : Bool) (s : State) :
    (State.writeProfile l q fits s).pending = s.pending ∧ (State.writeProfile l q fits s).slurry = s.slurry ∧
    (State.writeProfile l q fits s).kelly = s.kelly ∧ (State.writeProfile l q fits s).marks = s.marks ∧
    (State.writeProfile l q fits s).ring = s.ring ∧ (State.writeProfile l q fits s).seq = s.seq ∧
    (State.writeProfile l q fits s).limits = s.limits ∧ (State.writeProfile l q fits s).axes = s.axes ∧
    (State.writeProfile l q fits s).env = s.env ∧ (State.writeProfile l q fits s).masks = s.masks ∧
    (State.writeProfile l q fits s).faults = s.faults ∧ (State.writeProfile l q fits s).ctl = s.ctl ∧
    (State.writeProfile l q fits s).sup = s.sup ∧ (State.writeProfile l q fits s).mail = s.mail ∧
    (State.writeProfile l q fits s).resetLine = s.resetLine ∧ (State.writeProfile l q fits s).free = s.free := by
  simp only [State.writeProfile]; (repeat' split) <;> simp

@[simp] theorem State.writeSlurry_frame (l : Link) (q : Request) (s : State) :
    (State.writeSlurry l q s).pending = s.pending ∧ (State.writeSlurry l q s).profile = s.profile ∧
    (State.writeSlurry l q s).kelly = s.kelly ∧ (State.writeSlurry l q s).marks = s.marks ∧
    (State.writeSlurry l q s).ring = s.ring ∧ (State.writeSlurry l q s).seq = s.seq ∧
    (State.writeSlurry l q s).limits = s.limits ∧ (State.writeSlurry l q s).axes = s.axes ∧
    (State.writeSlurry l q s).env = s.env ∧ (State.writeSlurry l q s).masks = s.masks ∧
    (State.writeSlurry l q s).faults = s.faults ∧ (State.writeSlurry l q s).ctl = s.ctl ∧
    (State.writeSlurry l q s).sup = s.sup ∧ (State.writeSlurry l q s).resetLine = s.resetLine ∧
    (State.writeSlurry l q s).free = s.free := by
  simp only [State.writeSlurry]; (repeat' split) <;> simp

@[simp] theorem State.changeMark_frame (l : Link) (q : Request) (k : Fin 8) (m : Mark) (s : State) :
    (State.changeMark l q k m s).pending = s.pending ∧ (State.changeMark l q k m s).profile = s.profile ∧
    (State.changeMark l q k m s).slurry = s.slurry ∧ (State.changeMark l q k m s).kelly = s.kelly ∧
    (State.changeMark l q k m s).ring = s.ring ∧ (State.changeMark l q k m s).seq = s.seq ∧
    (State.changeMark l q k m s).limits = s.limits ∧ (State.changeMark l q k m s).axes = s.axes ∧
    (State.changeMark l q k m s).env = s.env ∧ (State.changeMark l q k m s).masks = s.masks ∧
    (State.changeMark l q k m s).faults = s.faults ∧ (State.changeMark l q k m s).ctl = s.ctl ∧
    (State.changeMark l q k m s).sup = s.sup ∧ (State.changeMark l q k m s).mail = s.mail ∧
    (State.changeMark l q k m s).resetLine = s.resetLine ∧ (State.changeMark l q k m s).free = s.free := by
  simp only [State.changeMark]; (repeat' split) <;> simp

@[simp] theorem State.writeMarkDepth_frame (l : Link) (q : Request) (s : State) :
    (State.writeMarkDepth l q s).pending = s.pending ∧ (State.writeMarkDepth l q s).profile = s.profile ∧
    (State.writeMarkDepth l q s).slurry = s.slurry ∧ (State.writeMarkDepth l q s).kelly = s.kelly ∧
    (State.writeMarkDepth l q s).ring = s.ring ∧ (State.writeMarkDepth l q s).seq = s.seq ∧
    (State.writeMarkDepth l q s).limits = s.limits ∧ (State.writeMarkDepth l q s).axes = s.axes ∧
    (State.writeMarkDepth l q s).env = s.env ∧ (State.writeMarkDepth l q s).masks = s.masks ∧
    (State.writeMarkDepth l q s).faults = s.faults ∧ (State.writeMarkDepth l q s).ctl = s.ctl ∧
    (State.writeMarkDepth l q s).sup = s.sup ∧ (State.writeMarkDepth l q s).mail = s.mail ∧
    (State.writeMarkDepth l q s).resetLine = s.resetLine ∧ (State.writeMarkDepth l q s).free = s.free := by
  simp only [State.writeMarkDepth]; (repeat' split) <;> simp

@[simp] theorem State.writeMarkDisarm_frame (l : Link) (q : Request) (s : State) :
    (State.writeMarkDisarm l q s).pending = s.pending ∧ (State.writeMarkDisarm l q s).profile = s.profile ∧
    (State.writeMarkDisarm l q s).slurry = s.slurry ∧ (State.writeMarkDisarm l q s).kelly = s.kelly ∧
    (State.writeMarkDisarm l q s).ring = s.ring ∧ (State.writeMarkDisarm l q s).seq = s.seq ∧
    (State.writeMarkDisarm l q s).limits = s.limits ∧ (State.writeMarkDisarm l q s).axes = s.axes ∧
    (State.writeMarkDisarm l q s).env = s.env ∧ (State.writeMarkDisarm l q s).masks = s.masks ∧
    (State.writeMarkDisarm l q s).faults = s.faults ∧ (State.writeMarkDisarm l q s).ctl = s.ctl ∧
    (State.writeMarkDisarm l q s).sup = s.sup ∧ (State.writeMarkDisarm l q s).mail = s.mail ∧
    (State.writeMarkDisarm l q s).resetLine = s.resetLine ∧ (State.writeMarkDisarm l q s).free = s.free := by
  simp only [State.writeMarkDisarm]; (repeat' split) <;> simp

@[simp] theorem State.writeMarkField_frame (l : Link) (q : Request) (s : State) :
    (State.writeMarkField l q s).pending = s.pending ∧ (State.writeMarkField l q s).profile = s.profile ∧
    (State.writeMarkField l q s).slurry = s.slurry ∧ (State.writeMarkField l q s).kelly = s.kelly ∧
    (State.writeMarkField l q s).ring = s.ring ∧ (State.writeMarkField l q s).seq = s.seq ∧
    (State.writeMarkField l q s).limits = s.limits ∧ (State.writeMarkField l q s).axes = s.axes ∧
    (State.writeMarkField l q s).env = s.env ∧ (State.writeMarkField l q s).masks = s.masks ∧
    (State.writeMarkField l q s).faults = s.faults ∧ (State.writeMarkField l q s).ctl = s.ctl ∧
    (State.writeMarkField l q s).sup = s.sup ∧ (State.writeMarkField l q s).mail = s.mail ∧
    (State.writeMarkField l q s).resetLine = s.resetLine ∧ (State.writeMarkField l q s).free = s.free := by
  simp only [State.writeMarkField]; (repeat' split) <;> simp

@[simp] theorem State.writeOrder_frame (l : Link) (q : Request) (s : State) :
    (State.writeOrder l q s).pending = s.pending ∧ (State.writeOrder l q s).profile = s.profile ∧
    (State.writeOrder l q s).slurry = s.slurry ∧ (State.writeOrder l q s).kelly = s.kelly ∧
    (State.writeOrder l q s).marks = s.marks ∧ (State.writeOrder l q s).seq = s.seq ∧
    (State.writeOrder l q s).limits = s.limits ∧ (State.writeOrder l q s).axes = s.axes ∧
    (State.writeOrder l q s).env = s.env ∧ (State.writeOrder l q s).masks = s.masks ∧
    (State.writeOrder l q s).faults = s.faults ∧ (State.writeOrder l q s).ctl = s.ctl ∧
    (State.writeOrder l q s).sup = s.sup ∧ (State.writeOrder l q s).mail = s.mail ∧
    (State.writeOrder l q s).resetLine = s.resetLine ∧ (State.writeOrder l q s).free = s.free := by
  simp only [State.writeOrder]; (repeat' split) <;> simp

@[simp] theorem State.writeClass_frame (l : Link) (q : Request) (s : State) :
    (State.writeClass l q s).pending = s.pending ∧ (State.writeClass l q s).profile = s.profile ∧
    (State.writeClass l q s).slurry = s.slurry ∧ (State.writeClass l q s).kelly = s.kelly ∧
    (State.writeClass l q s).marks = s.marks ∧ (State.writeClass l q s).ring = s.ring ∧
    (State.writeClass l q s).seq = s.seq ∧ (State.writeClass l q s).limits = s.limits ∧
    (State.writeClass l q s).axes = s.axes ∧ (State.writeClass l q s).env = s.env ∧
    (State.writeClass l q s).masks = s.masks ∧ (State.writeClass l q s).ctl = s.ctl ∧
    (State.writeClass l q s).sup = s.sup ∧ (State.writeClass l q s).mail = s.mail ∧
    (State.writeClass l q s).resetLine = s.resetLine ∧ (State.writeClass l q s).free = s.free := by
  simp only [State.writeClass]; (repeat' split) <;> simp

@[simp] theorem State.writeTable_frame (l : Link) (q : Request) (s : State) :
    (State.writeTable l q s).pending = s.pending ∧ (State.writeTable l q s).profile = s.profile ∧
    (State.writeTable l q s).slurry = s.slurry ∧ (State.writeTable l q s).kelly = s.kelly ∧
    (State.writeTable l q s).marks = s.marks ∧ (State.writeTable l q s).ring = s.ring ∧
    (State.writeTable l q s).seq = s.seq ∧ (State.writeTable l q s).limits = s.limits ∧
    (State.writeTable l q s).axes = s.axes ∧ (State.writeTable l q s).env = s.env ∧
    (State.writeTable l q s).masks = s.masks ∧ (State.writeTable l q s).ctl = s.ctl ∧
    (State.writeTable l q s).sup = s.sup ∧ (State.writeTable l q s).mail = s.mail ∧
    (State.writeTable l q s).resetLine = s.resetLine ∧ (State.writeTable l q s).free = s.free := by
  simp only [State.writeTable]; (repeat' split) <;> simp

@[simp] theorem State.changeMask_frame (l : Link) (q : Request) (f : Mask → Mask → Mask) (s : State) :
    (State.changeMask l q f s).pending = s.pending ∧ (State.changeMask l q f s).profile = s.profile ∧
    (State.changeMask l q f s).slurry = s.slurry ∧ (State.changeMask l q f s).kelly = s.kelly ∧
    (State.changeMask l q f s).marks = s.marks ∧ (State.changeMask l q f s).ring = s.ring ∧
    (State.changeMask l q f s).seq = s.seq ∧ (State.changeMask l q f s).limits = s.limits ∧
    (State.changeMask l q f s).axes = s.axes ∧ (State.changeMask l q f s).env = s.env ∧
    (State.changeMask l q f s).faults = s.faults ∧ (State.changeMask l q f s).ctl = s.ctl ∧
    (State.changeMask l q f s).sup = s.sup ∧ (State.changeMask l q f s).resetLine = s.resetLine ∧
    (State.changeMask l q f s).free = s.free := by
  simp only [State.changeMask]; (repeat' split) <;> simp

@[simp] theorem State.changeFlags_frame (l : Link) (q : Request) (f : FlagSet → FlagSet → FlagSet) (s : State) :
    (State.changeFlags l q f s).pending = s.pending ∧ (State.changeFlags l q f s).profile = s.profile ∧
    (State.changeFlags l q f s).slurry = s.slurry ∧ (State.changeFlags l q f s).kelly = s.kelly ∧
    (State.changeFlags l q f s).marks = s.marks ∧ (State.changeFlags l q f s).ring = s.ring ∧
    (State.changeFlags l q f s).seq = s.seq ∧ (State.changeFlags l q f s).limits = s.limits ∧
    (State.changeFlags l q f s).axes = s.axes ∧ (State.changeFlags l q f s).env = s.env ∧
    (State.changeFlags l q f s).masks = s.masks ∧ (State.changeFlags l q f s).faults = s.faults ∧
    (State.changeFlags l q f s).ctl = s.ctl ∧ (State.changeFlags l q f s).sup = s.sup ∧
    (State.changeFlags l q f s).mail = s.mail ∧ (State.changeFlags l q f s).resetLine = s.resetLine ∧
    (State.changeFlags l q f s).free = s.free := by
  simp only [State.changeFlags]; (repeat' split) <;> simp

@[simp] theorem State.changeEnables_frame (l : Link) (q : Request) (f : FlagSet → FlagSet → FlagSet) (s : State) :
    (State.changeEnables l q f s).pending = s.pending ∧ (State.changeEnables l q f s).profile = s.profile ∧
    (State.changeEnables l q f s).slurry = s.slurry ∧ (State.changeEnables l q f s).kelly = s.kelly ∧
    (State.changeEnables l q f s).marks = s.marks ∧ (State.changeEnables l q f s).ring = s.ring ∧
    (State.changeEnables l q f s).seq = s.seq ∧ (State.changeEnables l q f s).limits = s.limits ∧
    (State.changeEnables l q f s).axes = s.axes ∧ (State.changeEnables l q f s).env = s.env ∧
    (State.changeEnables l q f s).masks = s.masks ∧ (State.changeEnables l q f s).faults = s.faults ∧
    (State.changeEnables l q f s).ctl = s.ctl ∧ (State.changeEnables l q f s).sup = s.sup ∧
    (State.changeEnables l q f s).mail = s.mail ∧ (State.changeEnables l q f s).resetLine = s.resetLine ∧
    (State.changeEnables l q f s).free = s.free := by
  simp only [State.changeEnables]; (repeat' split) <;> simp

@[simp] theorem State.run_frame (s : State) :
    (State.run s).pending = s.pending ∧ (State.run s).profile = s.profile ∧ (State.run s).slurry = s.slurry ∧
    (State.run s).marks = s.marks ∧ (State.run s).env = s.env ∧ (State.run s).masks = s.masks ∧
    (State.run s).faults = s.faults ∧ (State.run s).sup = s.sup ∧ (State.run s).resetLine = s.resetLine ∧
    (State.run s).free = s.free := by
  simp only [State.run]; (repeat' split) <;> simp

@[simp] theorem State.demandStart_frame (l : Link) (q : Request) (s : State) :
    (State.demandStart l q s).pending = s.pending ∧ (State.demandStart l q s).profile = s.profile ∧
    (State.demandStart l q s).slurry = s.slurry ∧ (State.demandStart l q s).marks = s.marks ∧
    (State.demandStart l q s).env = s.env ∧ (State.demandStart l q s).masks = s.masks ∧
    (State.demandStart l q s).faults = s.faults ∧ (State.demandStart l q s).sup = s.sup ∧
    (State.demandStart l q s).resetLine = s.resetLine ∧ (State.demandStart l q s).free = s.free := by
  simp only [State.demandStart]; (repeat' split) <;> simp

@[simp] theorem State.demandResume_frame (l : Link) (q : Request) (s : State) :
    (State.demandResume l q s).pending = s.pending ∧ (State.demandResume l q s).profile = s.profile ∧
    (State.demandResume l q s).slurry = s.slurry ∧ (State.demandResume l q s).marks = s.marks ∧
    (State.demandResume l q s).env = s.env ∧ (State.demandResume l q s).masks = s.masks ∧
    (State.demandResume l q s).faults = s.faults ∧ (State.demandResume l q s).sup = s.sup ∧
    (State.demandResume l q s).resetLine = s.resetLine ∧ (State.demandResume l q s).free = s.free := by
  simp only [State.demandResume]; (repeat' split) <;> simp

@[simp] theorem State.demandPause_frame (l : Link) (q : Request) (s : State) :
    (State.demandPause l q s).pending = s.pending ∧ (State.demandPause l q s).profile = s.profile ∧
    (State.demandPause l q s).slurry = s.slurry ∧ (State.demandPause l q s).kelly = s.kelly ∧
    (State.demandPause l q s).marks = s.marks ∧ (State.demandPause l q s).ring = s.ring ∧
    (State.demandPause l q s).limits = s.limits ∧ (State.demandPause l q s).axes = s.axes ∧
    (State.demandPause l q s).env = s.env ∧ (State.demandPause l q s).masks = s.masks ∧
    (State.demandPause l q s).faults = s.faults ∧ (State.demandPause l q s).ctl = s.ctl ∧
    (State.demandPause l q s).sup = s.sup ∧ (State.demandPause l q s).mail = s.mail ∧
    (State.demandPause l q s).resetLine = s.resetLine ∧ (State.demandPause l q s).free = s.free := by
  simp only [State.demandPause]; (repeat' split) <;> simp

@[simp] theorem State.demandAbort_frame (l : Link) (q : Request) (s : State) :
    (State.demandAbort l q s).pending = s.pending ∧ (State.demandAbort l q s).profile = s.profile ∧
    (State.demandAbort l q s).slurry = s.slurry ∧ (State.demandAbort l q s).marks = s.marks ∧
    (State.demandAbort l q s).ring = s.ring ∧ (State.demandAbort l q s).env = s.env ∧
    (State.demandAbort l q s).masks = s.masks ∧ (State.demandAbort l q s).faults = s.faults ∧
    (State.demandAbort l q s).sup = s.sup ∧ (State.demandAbort l q s).resetLine = s.resetLine ∧
    (State.demandAbort l q s).free = s.free := by
  simp only [State.demandAbort]; (repeat' split) <;> simp

@[simp] theorem State.demandFlush_frame (l : Link) (q : Request) (s : State) :
    (State.demandFlush l q s).pending = s.pending ∧ (State.demandFlush l q s).profile = s.profile ∧
    (State.demandFlush l q s).slurry = s.slurry ∧ (State.demandFlush l q s).kelly = s.kelly ∧
    (State.demandFlush l q s).marks = s.marks ∧ (State.demandFlush l q s).seq = s.seq ∧
    (State.demandFlush l q s).limits = s.limits ∧ (State.demandFlush l q s).axes = s.axes ∧
    (State.demandFlush l q s).env = s.env ∧ (State.demandFlush l q s).masks = s.masks ∧
    (State.demandFlush l q s).faults = s.faults ∧ (State.demandFlush l q s).ctl = s.ctl ∧
    (State.demandFlush l q s).sup = s.sup ∧ (State.demandFlush l q s).mail = s.mail ∧
    (State.demandFlush l q s).resetLine = s.resetLine ∧ (State.demandFlush l q s).free = s.free := by
  simp only [State.demandFlush]; (repeat' split) <;> simp

@[simp] theorem State.demandHandover_frame (l : Link) (q : Request) (s : State) :
    (State.demandHandover l q s).pending = s.pending ∧ (State.demandHandover l q s).profile = s.profile ∧
    (State.demandHandover l q s).slurry = s.slurry ∧ (State.demandHandover l q s).marks = s.marks ∧
    (State.demandHandover l q s).env = s.env ∧ (State.demandHandover l q s).masks = s.masks ∧
    (State.demandHandover l q s).faults = s.faults ∧ (State.demandHandover l q s).sup = s.sup ∧
    (State.demandHandover l q s).resetLine = s.resetLine ∧ (State.demandHandover l q s).free = s.free := by
  simp only [State.demandHandover]; (repeat' split) <;> simp

@[simp] theorem State.beginReseat_frame (s : State) :
    (State.beginReseat s).pending = s.pending ∧ (State.beginReseat s).profile = s.profile ∧
    (State.beginReseat s).slurry = s.slurry ∧ (State.beginReseat s).marks = s.marks ∧
    (State.beginReseat s).ring = s.ring ∧ (State.beginReseat s).seq = s.seq ∧
    (State.beginReseat s).limits = s.limits ∧ (State.beginReseat s).env = s.env ∧
    (State.beginReseat s).masks = s.masks ∧ (State.beginReseat s).faults = s.faults ∧
    (State.beginReseat s).sup = s.sup ∧ (State.beginReseat s).resetLine = s.resetLine ∧
    (State.beginReseat s).free = s.free := by
  simp only [State.beginReseat]; (repeat' split) <;> simp

@[simp] theorem State.demandUnpark_frame (l : Link) (q : Request) (s : State) :
    (State.demandUnpark l q s).pending = s.pending ∧ (State.demandUnpark l q s).profile = s.profile ∧
    (State.demandUnpark l q s).slurry = s.slurry ∧ (State.demandUnpark l q s).marks = s.marks ∧
    (State.demandUnpark l q s).ring = s.ring ∧ (State.demandUnpark l q s).seq = s.seq ∧
    (State.demandUnpark l q s).limits = s.limits ∧ (State.demandUnpark l q s).env = s.env ∧
    (State.demandUnpark l q s).masks = s.masks ∧ (State.demandUnpark l q s).faults = s.faults ∧
    (State.demandUnpark l q s).sup = s.sup ∧ (State.demandUnpark l q s).resetLine = s.resetLine ∧
    (State.demandUnpark l q s).free = s.free := by
  simp only [State.demandUnpark]; (repeat' split) <;> simp

@[simp] theorem State.demandCommitReactions_frame (l : Link) (q : Request) (s : State) :
    (State.demandCommitReactions l q s).pending = s.pending ∧
    (State.demandCommitReactions l q s).profile = s.profile ∧ (State.demandCommitReactions l q s).slurry = s.slurry ∧
    (State.demandCommitReactions l q s).marks = s.marks ∧ (State.demandCommitReactions l q s).ring = s.ring ∧
    (State.demandCommitReactions l q s).seq = s.seq ∧ (State.demandCommitReactions l q s).limits = s.limits ∧
    (State.demandCommitReactions l q s).env = s.env ∧ (State.demandCommitReactions l q s).masks = s.masks ∧
    (State.demandCommitReactions l q s).sup = s.sup ∧ (State.demandCommitReactions l q s).resetLine = s.resetLine ∧
    (State.demandCommitReactions l q s).free = s.free := by
  simp only [State.demandCommitReactions]; (repeat' split) <;> simp

@[simp] theorem State.demandRestore_frame (l : Link) (q : Request) (s : State) :
    (State.demandRestore l q s).pending = s.pending ∧ (State.demandRestore l q s).profile = s.profile ∧
    (State.demandRestore l q s).slurry = s.slurry ∧ (State.demandRestore l q s).kelly = s.kelly ∧
    (State.demandRestore l q s).marks = s.marks ∧ (State.demandRestore l q s).ring = s.ring ∧
    (State.demandRestore l q s).seq = s.seq ∧ (State.demandRestore l q s).limits = s.limits ∧
    (State.demandRestore l q s).env = s.env ∧ (State.demandRestore l q s).masks = s.masks ∧
    (State.demandRestore l q s).ctl = s.ctl ∧ (State.demandRestore l q s).sup = s.sup ∧
    (State.demandRestore l q s).resetLine = s.resetLine ∧ (State.demandRestore l q s).free = s.free := by
  simp only [State.demandRestore]; (repeat' split) <;> simp

@[simp] theorem State.demandClearRecord_frame (l : Link) (q : Request) (s : State) :
    (State.demandClearRecord l q s).pending = s.pending ∧ (State.demandClearRecord l q s).profile = s.profile ∧
    (State.demandClearRecord l q s).slurry = s.slurry ∧ (State.demandClearRecord l q s).kelly = s.kelly ∧
    (State.demandClearRecord l q s).marks = s.marks ∧ (State.demandClearRecord l q s).ring = s.ring ∧
    (State.demandClearRecord l q s).seq = s.seq ∧ (State.demandClearRecord l q s).limits = s.limits ∧
    (State.demandClearRecord l q s).axes = s.axes ∧ (State.demandClearRecord l q s).env = s.env ∧
    (State.demandClearRecord l q s).masks = s.masks ∧ (State.demandClearRecord l q s).ctl = s.ctl ∧
    (State.demandClearRecord l q s).sup = s.sup ∧ (State.demandClearRecord l q s).mail = s.mail ∧
    (State.demandClearRecord l q s).resetLine = s.resetLine ∧ (State.demandClearRecord l q s).free = s.free := by
  simp only [State.demandClearRecord]; (repeat' split) <;> simp

@[simp] theorem State.demandCommitProfile_frame (l : Link) (q : Request) (s : State) :
    (State.demandCommitProfile l q s).pending = s.pending ∧ (State.demandCommitProfile l q s).slurry = s.slurry ∧
    (State.demandCommitProfile l q s).marks = s.marks ∧ (State.demandCommitProfile l q s).ring = s.ring ∧
    (State.demandCommitProfile l q s).seq = s.seq ∧ (State.demandCommitProfile l q s).masks = s.masks ∧
    (State.demandCommitProfile l q s).faults = s.faults ∧ (State.demandCommitProfile l q s).sup = s.sup ∧
    (State.demandCommitProfile l q s).resetLine = s.resetLine ∧ (State.demandCommitProfile l q s).free = s.free := by
  simp only [State.demandCommitProfile]; (repeat' split) <;> simp

@[simp] theorem State.demandReconfigure_frame (l : Link) (q : Request) (s : State) :
    (State.demandReconfigure l q s).pending = s.pending ∧ (State.demandReconfigure l q s).slurry = s.slurry ∧
    (State.demandReconfigure l q s).marks = s.marks ∧ (State.demandReconfigure l q s).ring = s.ring ∧
    (State.demandReconfigure l q s).env = s.env ∧ (State.demandReconfigure l q s).masks = s.masks ∧
    (State.demandReconfigure l q s).sup = s.sup ∧ (State.demandReconfigure l q s).resetLine = s.resetLine ∧
    (State.demandReconfigure l q s).free = s.free := by
  simp only [State.demandReconfigure]; (repeat' split) <;> simp

@[simp] theorem State.expireInput_frame (i : SensorInput) (s : State) :
    (State.expireInput i s).pending = s.pending ∧ (State.expireInput i s).profile = s.profile ∧
    (State.expireInput i s).slurry = s.slurry ∧ (State.expireInput i s).marks = s.marks ∧
    (State.expireInput i s).ring = s.ring ∧ (State.expireInput i s).env = s.env ∧
    (State.expireInput i s).masks = s.masks ∧ (State.expireInput i s).faults = s.faults ∧
    (State.expireInput i s).resetLine = s.resetLine ∧ (State.expireInput i s).free = s.free := by
  simp only [State.expireInput]; (repeat' split) <;> simp

@[simp] theorem State.onMail_frame (f : Mail → Mail) (s : State) :
    (State.onMail f s).pending = s.pending ∧ (State.onMail f s).profile = s.profile ∧
    (State.onMail f s).slurry = s.slurry ∧ (State.onMail f s).kelly = s.kelly ∧ (State.onMail f s).marks = s.marks ∧
    (State.onMail f s).ring = s.ring ∧ (State.onMail f s).seq = s.seq ∧ (State.onMail f s).limits = s.limits ∧
    (State.onMail f s).axes = s.axes ∧ (State.onMail f s).env = s.env ∧ (State.onMail f s).masks = s.masks ∧
    (State.onMail f s).faults = s.faults ∧ (State.onMail f s).ctl = s.ctl ∧ (State.onMail f s).sup = s.sup ∧
    (State.onMail f s).links = s.links ∧ (State.onMail f s).resetLine = s.resetLine ∧
    (State.onMail f s).free = s.free := by
  simp only [State.onMail]; (repeat' split) <;> simp

@[simp] theorem State.takeDepthSeq_frame (s : State) :
    (State.takeDepthSeq s).pending = s.pending ∧ (State.takeDepthSeq s).profile = s.profile ∧
    (State.takeDepthSeq s).slurry = s.slurry ∧ (State.takeDepthSeq s).marks = s.marks ∧
    (State.takeDepthSeq s).ring = s.ring ∧ (State.takeDepthSeq s).env = s.env ∧
    (State.takeDepthSeq s).masks = s.masks ∧ (State.takeDepthSeq s).faults = s.faults ∧
    (State.takeDepthSeq s).sup = s.sup ∧ (State.takeDepthSeq s).resetLine = s.resetLine ∧
    (State.takeDepthSeq s).free = s.free := by
  simp only [State.takeDepthSeq]; (repeat' split) <;> simp

@[simp] theorem State.takeTobSeq_frame (s : State) :
    (State.takeTobSeq s).pending = s.pending ∧ (State.takeTobSeq s).profile = s.profile ∧
    (State.takeTobSeq s).slurry = s.slurry ∧ (State.takeTobSeq s).marks = s.marks ∧
    (State.takeTobSeq s).ring = s.ring ∧ (State.takeTobSeq s).env = s.env ∧ (State.takeTobSeq s).masks = s.masks ∧
    (State.takeTobSeq s).faults = s.faults ∧ (State.takeTobSeq s).sup = s.sup ∧
    (State.takeTobSeq s).resetLine = s.resetLine ∧ (State.takeTobSeq s).free = s.free := by
  simp only [State.takeTobSeq]; (repeat' split) <;> simp

@[simp] theorem State.takeDepthMark_frame (s : State) :
    (State.takeDepthMark s).pending = s.pending ∧ (State.takeDepthMark s).profile = s.profile ∧
    (State.takeDepthMark s).slurry = s.slurry ∧ (State.takeDepthMark s).ring = s.ring ∧
    (State.takeDepthMark s).env = s.env ∧ (State.takeDepthMark s).masks = s.masks ∧
    (State.takeDepthMark s).faults = s.faults ∧ (State.takeDepthMark s).sup = s.sup ∧
    (State.takeDepthMark s).resetLine = s.resetLine ∧ (State.takeDepthMark s).free = s.free := by
  simp only [State.takeDepthMark]; (repeat' split) <;> simp

@[simp] theorem State.takeTrigger_frame (s : State) :
    (State.takeTrigger s).pending = s.pending ∧ (State.takeTrigger s).profile = s.profile ∧
    (State.takeTrigger s).slurry = s.slurry ∧ (State.takeTrigger s).kelly = s.kelly ∧
    (State.takeTrigger s).marks = s.marks ∧ (State.takeTrigger s).ring = s.ring ∧ (State.takeTrigger s).seq = s.seq ∧
    (State.takeTrigger s).axes = s.axes ∧ (State.takeTrigger s).env = s.env ∧ (State.takeTrigger s).masks = s.masks ∧
    (State.takeTrigger s).faults = s.faults ∧ (State.takeTrigger s).ctl = s.ctl ∧ (State.takeTrigger s).sup = s.sup ∧
    (State.takeTrigger s).links = s.links ∧ (State.takeTrigger s).resetLine = s.resetLine ∧
    (State.takeTrigger s).free = s.free := by
  simp only [State.takeTrigger]; (repeat' split) <;> simp

@[simp] theorem State.takeLimitAxesMail_frame (s : State) :
    (State.takeLimitAxesMail s).pending = s.pending ∧ (State.takeLimitAxesMail s).profile = s.profile ∧
    (State.takeLimitAxesMail s).slurry = s.slurry ∧ (State.takeLimitAxesMail s).marks = s.marks ∧
    (State.takeLimitAxesMail s).ring = s.ring ∧ (State.takeLimitAxesMail s).env = s.env ∧
    (State.takeLimitAxesMail s).masks = s.masks ∧ (State.takeLimitAxesMail s).faults = s.faults ∧
    (State.takeLimitAxesMail s).sup = s.sup ∧ (State.takeLimitAxesMail s).resetLine = s.resetLine ∧
    (State.takeLimitAxesMail s).free = s.free := by
  simp only [State.takeLimitAxesMail]; (repeat' split) <;> simp

@[simp] theorem State.takeLimitModel_frame (s : State) :
    (State.takeLimitModel s).pending = s.pending ∧ (State.takeLimitModel s).profile = s.profile ∧
    (State.takeLimitModel s).slurry = s.slurry ∧ (State.takeLimitModel s).marks = s.marks ∧
    (State.takeLimitModel s).ring = s.ring ∧ (State.takeLimitModel s).seq = s.seq ∧
    (State.takeLimitModel s).limits = s.limits ∧ (State.takeLimitModel s).axes = s.axes ∧
    (State.takeLimitModel s).env = s.env ∧ (State.takeLimitModel s).masks = s.masks ∧
    (State.takeLimitModel s).faults = s.faults ∧ (State.takeLimitModel s).ctl = s.ctl ∧
    (State.takeLimitModel s).sup = s.sup ∧ (State.takeLimitModel s).links = s.links ∧
    (State.takeLimitModel s).resetLine = s.resetLine ∧ (State.takeLimitModel s).free = s.free := by
  simp only [State.takeLimitModel]; (repeat' split) <;> simp

@[simp] theorem State.takeLimitSeqMail_frame (s : State) :
    (State.takeLimitSeqMail s).pending = s.pending ∧ (State.takeLimitSeqMail s).profile = s.profile ∧
    (State.takeLimitSeqMail s).slurry = s.slurry ∧ (State.takeLimitSeqMail s).marks = s.marks ∧
    (State.takeLimitSeqMail s).ring = s.ring ∧ (State.takeLimitSeqMail s).env = s.env ∧
    (State.takeLimitSeqMail s).masks = s.masks ∧ (State.takeLimitSeqMail s).faults = s.faults ∧
    (State.takeLimitSeqMail s).sup = s.sup ∧ (State.takeLimitSeqMail s).resetLine = s.resetLine ∧
    (State.takeLimitSeqMail s).free = s.free := by
  simp only [State.takeLimitSeqMail]; (repeat' split) <;> simp

@[simp] theorem State.takeUnionAxes_frame (s : State) :
    (State.takeUnionAxes s).pending = s.pending ∧ (State.takeUnionAxes s).profile = s.profile ∧
    (State.takeUnionAxes s).slurry = s.slurry ∧ (State.takeUnionAxes s).marks = s.marks ∧
    (State.takeUnionAxes s).ring = s.ring ∧ (State.takeUnionAxes s).env = s.env ∧
    (State.takeUnionAxes s).masks = s.masks ∧ (State.takeUnionAxes s).faults = s.faults ∧
    (State.takeUnionAxes s).sup = s.sup ∧ (State.takeUnionAxes s).resetLine = s.resetLine ∧
    (State.takeUnionAxes s).free = s.free := by
  simp only [State.takeUnionAxes]; (repeat' split) <;> simp

@[simp] theorem State.takeUnionSeq_frame (s : State) :
    (State.takeUnionSeq s).pending = s.pending ∧ (State.takeUnionSeq s).profile = s.profile ∧
    (State.takeUnionSeq s).slurry = s.slurry ∧ (State.takeUnionSeq s).kelly = s.kelly ∧
    (State.takeUnionSeq s).marks = s.marks ∧ (State.takeUnionSeq s).ring = s.ring ∧
    (State.takeUnionSeq s).limits = s.limits ∧ (State.takeUnionSeq s).axes = s.axes ∧
    (State.takeUnionSeq s).env = s.env ∧ (State.takeUnionSeq s).masks = s.masks ∧
    (State.takeUnionSeq s).faults = s.faults ∧ (State.takeUnionSeq s).ctl = s.ctl ∧
    (State.takeUnionSeq s).sup = s.sup ∧ (State.takeUnionSeq s).links = s.links ∧
    (State.takeUnionSeq s).resetLine = s.resetLine ∧ (State.takeUnionSeq s).free = s.free := by
  simp only [State.takeUnionSeq]; (repeat' split) <;> simp

@[simp] theorem State.takeModeSeq_frame (s : State) :
    (State.takeModeSeq s).pending = s.pending ∧ (State.takeModeSeq s).profile = s.profile ∧
    (State.takeModeSeq s).slurry = s.slurry ∧ (State.takeModeSeq s).marks = s.marks ∧
    (State.takeModeSeq s).env = s.env ∧ (State.takeModeSeq s).masks = s.masks ∧
    (State.takeModeSeq s).faults = s.faults ∧ (State.takeModeSeq s).sup = s.sup ∧
    (State.takeModeSeq s).resetLine = s.resetLine ∧ (State.takeModeSeq s).free = s.free := by
  simp only [State.takeModeSeq]; (repeat' split) <;> simp

@[simp] theorem State.takeModeEnv_frame (s : State) :
    (State.takeModeEnv s).pending = s.pending ∧ (State.takeModeEnv s).profile = s.profile ∧
    (State.takeModeEnv s).slurry = s.slurry ∧ (State.takeModeEnv s).kelly = s.kelly ∧
    (State.takeModeEnv s).marks = s.marks ∧ (State.takeModeEnv s).ring = s.ring ∧ (State.takeModeEnv s).seq = s.seq ∧
    (State.takeModeEnv s).limits = s.limits ∧ (State.takeModeEnv s).axes = s.axes ∧
    (State.takeModeEnv s).masks = s.masks ∧ (State.takeModeEnv s).faults = s.faults ∧
    (State.takeModeEnv s).ctl = s.ctl ∧ (State.takeModeEnv s).sup = s.sup ∧ (State.takeModeEnv s).links = s.links ∧
    (State.takeModeEnv s).resetLine = s.resetLine ∧ (State.takeModeEnv s).free = s.free := by
  simp only [State.takeModeEnv]; (repeat' split) <;> simp

@[simp] theorem State.takeModeSup_frame (s : State) :
    (State.takeModeSup s).pending = s.pending ∧ (State.takeModeSup s).profile = s.profile ∧
    (State.takeModeSup s).slurry = s.slurry ∧ (State.takeModeSup s).kelly = s.kelly ∧
    (State.takeModeSup s).marks = s.marks ∧ (State.takeModeSup s).ring = s.ring ∧ (State.takeModeSup s).seq = s.seq ∧
    (State.takeModeSup s).limits = s.limits ∧ (State.takeModeSup s).env = s.env ∧
    (State.takeModeSup s).masks = s.masks ∧ (State.takeModeSup s).faults = s.faults ∧
    (State.takeModeSup s).ctl = s.ctl ∧ (State.takeModeSup s).links = s.links ∧
    (State.takeModeSup s).resetLine = s.resetLine ∧ (State.takeModeSup s).free = s.free := by
  simp only [State.takeModeSup]; (repeat' split) <;> simp

@[simp] theorem State.takeModeLines_frame (s : State) :
    (State.takeModeLines s).pending = s.pending ∧ (State.takeModeLines s).profile = s.profile ∧
    (State.takeModeLines s).slurry = s.slurry ∧ (State.takeModeLines s).kelly = s.kelly ∧
    (State.takeModeLines s).marks = s.marks ∧ (State.takeModeLines s).ring = s.ring ∧
    (State.takeModeLines s).seq = s.seq ∧ (State.takeModeLines s).limits = s.limits ∧
    (State.takeModeLines s).axes = s.axes ∧ (State.takeModeLines s).env = s.env ∧
    (State.takeModeLines s).masks = s.masks ∧ (State.takeModeLines s).ctl = s.ctl ∧
    (State.takeModeLines s).sup = s.sup ∧ (State.takeModeLines s).links = s.links ∧
    (State.takeModeLines s).resetLine = s.resetLine ∧ (State.takeModeLines s).free = s.free := by
  simp only [State.takeModeLines]; (repeat' split) <;> simp

@[simp] theorem State.takeRaiseOf_frame (v : FaultVector) (s : State) :
    (State.takeRaiseOf v s).pending = s.pending ∧ (State.takeRaiseOf v s).profile = s.profile ∧
    (State.takeRaiseOf v s).slurry = s.slurry ∧ (State.takeRaiseOf v s).marks = s.marks ∧
    (State.takeRaiseOf v s).ring = s.ring ∧ (State.takeRaiseOf v s).env = s.env ∧
    (State.takeRaiseOf v s).masks = s.masks ∧ (State.takeRaiseOf v s).sup = s.sup ∧
    (State.takeRaiseOf v s).resetLine = s.resetLine ∧ (State.takeRaiseOf v s).free = s.free := by
  simp only [State.takeRaiseOf]; (repeat' split) <;> simp

@[simp] theorem State.takeLockout_frame (s : State) :
    (State.takeLockout s).pending = s.pending ∧ (State.takeLockout s).profile = s.profile ∧
    (State.takeLockout s).slurry = s.slurry ∧ (State.takeLockout s).marks = s.marks ∧
    (State.takeLockout s).ring = s.ring ∧ (State.takeLockout s).seq = s.seq ∧
    (State.takeLockout s).limits = s.limits ∧ (State.takeLockout s).env = s.env ∧
    (State.takeLockout s).masks = s.masks ∧ (State.takeLockout s).faults = s.faults ∧
    (State.takeLockout s).sup = s.sup ∧ (State.takeLockout s).resetLine = s.resetLine ∧
    (State.takeLockout s).free = s.free := by
  simp only [State.takeLockout]; (repeat' split) <;> simp

@[simp] theorem State.takeReaction_frame (s : State) :
    (State.takeReaction s).pending = s.pending ∧ (State.takeReaction s).profile = s.profile ∧
    (State.takeReaction s).slurry = s.slurry ∧ (State.takeReaction s).marks = s.marks ∧
    (State.takeReaction s).ring = s.ring ∧ (State.takeReaction s).env = s.env ∧
    (State.takeReaction s).masks = s.masks ∧ (State.takeReaction s).faults = s.faults ∧
    (State.takeReaction s).sup = s.sup ∧ (State.takeReaction s).resetLine = s.resetLine ∧
    (State.takeReaction s).free = s.free := by
  simp only [State.takeReaction]; (repeat' split) <;> simp

@[simp] theorem State.takeOrderOf_frame (o : ChannelOrder) (s : State) :
    (State.takeOrderOf o s).pending = s.pending ∧ (State.takeOrderOf o s).profile = s.profile ∧
    (State.takeOrderOf o s).slurry = s.slurry ∧ (State.takeOrderOf o s).marks = s.marks ∧
    (State.takeOrderOf o s).ring = s.ring ∧ (State.takeOrderOf o s).env = s.env ∧
    (State.takeOrderOf o s).masks = s.masks ∧ (State.takeOrderOf o s).faults = s.faults ∧
    (State.takeOrderOf o s).sup = s.sup ∧ (State.takeOrderOf o s).resetLine = s.resetLine ∧
    (State.takeOrderOf o s).free = s.free := by
  simp only [State.takeOrderOf]; (repeat' split) <;> simp

@[simp] theorem State.takeReached_frame (x : Axis) (s : State) :
    (State.takeReached x s).pending = s.pending ∧ (State.takeReached x s).profile = s.profile ∧
    (State.takeReached x s).slurry = s.slurry ∧ (State.takeReached x s).marks = s.marks ∧
    (State.takeReached x s).ring = s.ring ∧ (State.takeReached x s).env = s.env ∧
    (State.takeReached x s).masks = s.masks ∧ (State.takeReached x s).faults = s.faults ∧
    (State.takeReached x s).sup = s.sup ∧ (State.takeReached x s).resetLine = s.resetLine ∧
    (State.takeReached x s).free = s.free := by
  simp only [State.takeReached, State.boundary]; (repeat' split) <;> simp

@[simp] theorem State.beginShift_frame (s : State) :
    (State.beginShift s).pending = s.pending ∧ (State.beginShift s).profile = s.profile ∧
    (State.beginShift s).slurry = s.slurry ∧ (State.beginShift s).marks = s.marks ∧
    (State.beginShift s).ring = s.ring ∧ (State.beginShift s).seq = s.seq ∧ (State.beginShift s).limits = s.limits ∧
    (State.beginShift s).env = s.env ∧ (State.beginShift s).masks = s.masks ∧ (State.beginShift s).faults = s.faults ∧
    (State.beginShift s).ctl = s.ctl ∧ (State.beginShift s).sup = s.sup ∧ (State.beginShift s).links = s.links ∧
    (State.beginShift s).resetLine = s.resetLine ∧ (State.beginShift s).free = s.free := by
  simp only [State.beginShift]; (repeat' split) <;> simp

@[simp] theorem State.expireShift_frame (s : State) :
    (State.expireShift s).pending = s.pending ∧ (State.expireShift s).profile = s.profile ∧
    (State.expireShift s).slurry = s.slurry ∧ (State.expireShift s).marks = s.marks ∧
    (State.expireShift s).ring = s.ring ∧ (State.expireShift s).env = s.env ∧ (State.expireShift s).masks = s.masks ∧
    (State.expireShift s).faults = s.faults ∧ (State.expireShift s).sup = s.sup ∧
    (State.expireShift s).resetLine = s.resetLine ∧ (State.expireShift s).free = s.free := by
  simp only [State.expireShift]; (repeat' split) <;> simp

@[simp] theorem State.expireBrake_frame (x : Axis) (s : State) :
    (State.expireBrake x s).pending = s.pending ∧ (State.expireBrake x s).profile = s.profile ∧
    (State.expireBrake x s).slurry = s.slurry ∧ (State.expireBrake x s).marks = s.marks ∧
    (State.expireBrake x s).ring = s.ring ∧ (State.expireBrake x s).env = s.env ∧
    (State.expireBrake x s).masks = s.masks ∧ (State.expireBrake x s).faults = s.faults ∧
    (State.expireBrake x s).sup = s.sup ∧ (State.expireBrake x s).resetLine = s.resetLine ∧
    (State.expireBrake x s).free = s.free := by
  simp only [State.expireBrake]; (repeat' split) <;> simp

@[simp] theorem State.expireStall_frame (s : State) :
    (State.expireStall s).pending = s.pending ∧ (State.expireStall s).profile = s.profile ∧
    (State.expireStall s).slurry = s.slurry ∧ (State.expireStall s).marks = s.marks ∧
    (State.expireStall s).ring = s.ring ∧ (State.expireStall s).env = s.env ∧ (State.expireStall s).masks = s.masks ∧
    (State.expireStall s).faults = s.faults ∧ (State.expireStall s).sup = s.sup ∧
    (State.expireStall s).resetLine = s.resetLine ∧ (State.expireStall s).free = s.free := by
  simp only [State.expireStall]; (repeat' split) <;> simp

@[simp] theorem State.expireWindow_frame (s : State) :
    (State.expireWindow s).pending = s.pending ∧ (State.expireWindow s).profile = s.profile ∧
    (State.expireWindow s).slurry = s.slurry ∧ (State.expireWindow s).kelly = s.kelly ∧
    (State.expireWindow s).marks = s.marks ∧ (State.expireWindow s).ring = s.ring ∧
    (State.expireWindow s).seq = s.seq ∧ (State.expireWindow s).limits = s.limits ∧
    (State.expireWindow s).env = s.env ∧ (State.expireWindow s).masks = s.masks ∧
    (State.expireWindow s).faults = s.faults ∧ (State.expireWindow s).ctl = s.ctl ∧
    (State.expireWindow s).sup = s.sup ∧ (State.expireWindow s).links = s.links ∧
    (State.expireWindow s).resetLine = s.resetLine ∧ (State.expireWindow s).free = s.free := by
  simp only [State.expireWindow]; (repeat' split) <;> simp

@[simp] theorem State.expireSeatSettle_frame (s : State) :
    (State.expireSeatSettle s).pending = s.pending ∧ (State.expireSeatSettle s).profile = s.profile ∧
    (State.expireSeatSettle s).slurry = s.slurry ∧ (State.expireSeatSettle s).marks = s.marks ∧
    (State.expireSeatSettle s).ring = s.ring ∧ (State.expireSeatSettle s).seq = s.seq ∧
    (State.expireSeatSettle s).limits = s.limits ∧ (State.expireSeatSettle s).env = s.env ∧
    (State.expireSeatSettle s).masks = s.masks ∧ (State.expireSeatSettle s).faults = s.faults ∧
    (State.expireSeatSettle s).ctl = s.ctl ∧ (State.expireSeatSettle s).sup = s.sup ∧
    (State.expireSeatSettle s).links = s.links ∧ (State.expireSeatSettle s).resetLine = s.resetLine ∧
    (State.expireSeatSettle s).free = s.free := by
  simp only [State.expireSeatSettle]; (repeat' split) <;> simp

@[simp] theorem State.expireReleaseSettle_frame (s : State) :
    (State.expireReleaseSettle s).pending = s.pending ∧ (State.expireReleaseSettle s).profile = s.profile ∧
    (State.expireReleaseSettle s).slurry = s.slurry ∧ (State.expireReleaseSettle s).marks = s.marks ∧
    (State.expireReleaseSettle s).env = s.env ∧ (State.expireReleaseSettle s).masks = s.masks ∧
    (State.expireReleaseSettle s).faults = s.faults ∧ (State.expireReleaseSettle s).sup = s.sup ∧
    (State.expireReleaseSettle s).resetLine = s.resetLine ∧ (State.expireReleaseSettle s).free = s.free := by
  simp only [State.expireReleaseSettle]; (repeat' split) <;> simp

@[simp] theorem State.expireReleaseDwell_frame (s : State) :
    (State.expireReleaseDwell s).pending = s.pending ∧ (State.expireReleaseDwell s).profile = s.profile ∧
    (State.expireReleaseDwell s).slurry = s.slurry ∧ (State.expireReleaseDwell s).marks = s.marks ∧
    (State.expireReleaseDwell s).ring = s.ring ∧ (State.expireReleaseDwell s).env = s.env ∧
    (State.expireReleaseDwell s).masks = s.masks ∧ (State.expireReleaseDwell s).faults = s.faults ∧
    (State.expireReleaseDwell s).sup = s.sup ∧ (State.expireReleaseDwell s).resetLine = s.resetLine ∧
    (State.expireReleaseDwell s).free = s.free := by
  simp only [State.expireReleaseDwell, State.boundary]; (repeat' split) <;> simp

@[simp] theorem State.expireSledWatch_frame (s : State) :
    (State.expireSledWatch s).pending = s.pending ∧ (State.expireSledWatch s).profile = s.profile ∧
    (State.expireSledWatch s).slurry = s.slurry ∧ (State.expireSledWatch s).marks = s.marks ∧
    (State.expireSledWatch s).ring = s.ring ∧ (State.expireSledWatch s).env = s.env ∧
    (State.expireSledWatch s).masks = s.masks ∧ (State.expireSledWatch s).faults = s.faults ∧
    (State.expireSledWatch s).sup = s.sup ∧ (State.expireSledWatch s).resetLine = s.resetLine ∧
    (State.expireSledWatch s).free = s.free := by
  simp only [State.expireSledWatch]; (repeat' split) <;> simp

@[simp] theorem State.expireRotationLimit_frame (s : State) :
    (State.expireRotationLimit s).pending = s.pending ∧ (State.expireRotationLimit s).profile = s.profile ∧
    (State.expireRotationLimit s).slurry = s.slurry ∧ (State.expireRotationLimit s).marks = s.marks ∧
    (State.expireRotationLimit s).ring = s.ring ∧ (State.expireRotationLimit s).env = s.env ∧
    (State.expireRotationLimit s).masks = s.masks ∧ (State.expireRotationLimit s).faults = s.faults ∧
    (State.expireRotationLimit s).sup = s.sup ∧ (State.expireRotationLimit s).resetLine = s.resetLine ∧
    (State.expireRotationLimit s).free = s.free := by
  simp only [State.expireRotationLimit]; (repeat' split) <;> simp

@[simp] theorem State.expireDwell_frame (s : State) :
    (State.expireDwell s).pending = s.pending ∧ (State.expireDwell s).profile = s.profile ∧
    (State.expireDwell s).slurry = s.slurry ∧ (State.expireDwell s).marks = s.marks ∧
    (State.expireDwell s).ring = s.ring ∧ (State.expireDwell s).env = s.env ∧ (State.expireDwell s).masks = s.masks ∧
    (State.expireDwell s).faults = s.faults ∧ (State.expireDwell s).sup = s.sup ∧
    (State.expireDwell s).resetLine = s.resetLine ∧ (State.expireDwell s).free = s.free := by
  simp only [State.expireDwell]; (repeat' split) <;> simp

@[simp] theorem State.expireUnseatWatch_frame (s : State) :
    (State.expireUnseatWatch s).pending = s.pending ∧ (State.expireUnseatWatch s).profile = s.profile ∧
    (State.expireUnseatWatch s).slurry = s.slurry ∧ (State.expireUnseatWatch s).kelly = s.kelly ∧
    (State.expireUnseatWatch s).marks = s.marks ∧ (State.expireUnseatWatch s).ring = s.ring ∧
    (State.expireUnseatWatch s).limits = s.limits ∧ (State.expireUnseatWatch s).env = s.env ∧
    (State.expireUnseatWatch s).masks = s.masks ∧ (State.expireUnseatWatch s).faults = s.faults ∧
    (State.expireUnseatWatch s).ctl = s.ctl ∧ (State.expireUnseatWatch s).sup = s.sup ∧
    (State.expireUnseatWatch s).links = s.links ∧ (State.expireUnseatWatch s).resetLine = s.resetLine ∧
    (State.expireUnseatWatch s).free = s.free := by
  simp only [State.expireUnseatWatch]; (repeat' split) <;> simp

@[simp] theorem State.expireStuckWatch_frame (s : State) :
    (State.expireStuckWatch s).pending = s.pending ∧ (State.expireStuckWatch s).profile = s.profile ∧
    (State.expireStuckWatch s).slurry = s.slurry ∧ (State.expireStuckWatch s).kelly = s.kelly ∧
    (State.expireStuckWatch s).marks = s.marks ∧ (State.expireStuckWatch s).ring = s.ring ∧
    (State.expireStuckWatch s).limits = s.limits ∧ (State.expireStuckWatch s).env = s.env ∧
    (State.expireStuckWatch s).masks = s.masks ∧ (State.expireStuckWatch s).faults = s.faults ∧
    (State.expireStuckWatch s).ctl = s.ctl ∧ (State.expireStuckWatch s).sup = s.sup ∧
    (State.expireStuckWatch s).links = s.links ∧ (State.expireStuckWatch s).resetLine = s.resetLine ∧
    (State.expireStuckWatch s).free = s.free := by
  simp only [State.expireStuckWatch]; (repeat' split) <;> simp

@[simp] theorem State.expireFreshness_frame (s : State) :
    (State.expireFreshness s).pending = s.pending ∧ (State.expireFreshness s).profile = s.profile ∧
    (State.expireFreshness s).slurry = s.slurry ∧ (State.expireFreshness s).kelly = s.kelly ∧
    (State.expireFreshness s).marks = s.marks ∧ (State.expireFreshness s).ring = s.ring ∧
    (State.expireFreshness s).seq = s.seq ∧ (State.expireFreshness s).limits = s.limits ∧
    (State.expireFreshness s).axes = s.axes ∧ (State.expireFreshness s).masks = s.masks ∧
    (State.expireFreshness s).faults = s.faults ∧ (State.expireFreshness s).ctl = s.ctl ∧
    (State.expireFreshness s).sup = s.sup ∧ (State.expireFreshness s).resetLine = s.resetLine ∧
    (State.expireFreshness s).free = s.free := by
  simp only [State.expireFreshness]; (repeat' split) <;> simp

@[simp] theorem State.expireLoss_frame (s : State) :
    (State.expireLoss s).pending = s.pending ∧ (State.expireLoss s).profile = s.profile ∧
    (State.expireLoss s).slurry = s.slurry ∧ (State.expireLoss s).kelly = s.kelly ∧
    (State.expireLoss s).marks = s.marks ∧ (State.expireLoss s).ring = s.ring ∧ (State.expireLoss s).seq = s.seq ∧
    (State.expireLoss s).limits = s.limits ∧ (State.expireLoss s).axes = s.axes ∧
    (State.expireLoss s).masks = s.masks ∧ (State.expireLoss s).faults = s.faults ∧ (State.expireLoss s).ctl = s.ctl ∧
    (State.expireLoss s).sup = s.sup ∧ (State.expireLoss s).links = s.links ∧
    (State.expireLoss s).resetLine = s.resetLine ∧ (State.expireLoss s).free = s.free := by
  simp only [State.expireLoss]; (repeat' split) <;> simp

end Sys2Proof.Machine
end

