-- ==== Sys2Proof/Laws/Channels.lean ====
section
/-! SUPPORT. What settling the channels does to the channels' own record: what it leaves, and that every setpoint then lies within its
bounds (R124). -/
namespace Sys2Proof.Machine

/-! ### What settling leaves -/

@[simp] theorem Axes.modify_keeps (a : Axes) (x : Axis) (f : Channel → Channel) :
    (a.modify x f).governor = a.governor ∧ (a.modify x f).sledGoal = a.sledGoal ∧ (a.modify x f).keptTension = a.keptTension ∧
    (a.modify x f).gear = a.gear ∧ (a.modify x f).shift = a.shift ∧ (a.modify x f).queuedShift = a.queuedShift ∧
    (a.modify x f).shiftTimer = a.shiftTimer ∧ (a.modify x f).valve = a.valve ∧ (a.modify x f).stallTimer = a.stallTimer ∧
    (a.modify x f).relief = a.relief ∧ (a.modify x f).window = a.window ∧ (a.modify x f).slackLatch = a.slackLatch ∧
    (a.modify x f).overpullLatch = a.overpullLatch ∧ (a.modify x f).topLatch = a.topLatch ∧
    (a.modify x f).topCount = a.topCount ∧ (a.modify x f).topState = a.topState ∧ (a.modify x f).limits = a.limits ∧
    (a.modify x f).union = a.union ∧ (a.modify x f).sinceRope = a.sinceRope ∧ (a.modify x f).sinceSled = a.sinceSled := by
  cases x <;> simp [Axes.modify]

@[simp] theorem Axes.get_modify (a : Axes) (x y : Axis) (f : Channel → Channel) :
    (a.modify x f).get y = if x = y then f (a.get y) else a.get y := by cases x <;> cases y <;> simp [Axes.modify, Axes.get]

@[simp] theorem State.settleChannel_axes (x : Axis) (s : State) :
    (s.settleChannel x).axes.governor = s.axes.governor ∧ (s.settleChannel x).axes.sledGoal = s.axes.sledGoal ∧
    (s.settleChannel x).axes.keptTension = s.axes.keptTension ∧
    (s.settleChannel x).axes.gear = s.axes.gear ∧ (s.settleChannel x).axes.shift = s.axes.shift ∧
    (s.settleChannel x).axes.queuedShift = s.axes.queuedShift ∧
    (s.settleChannel x).axes.shiftTimer = s.axes.shiftTimer ∧ (s.settleChannel x).axes.valve = s.axes.valve ∧
    (s.settleChannel x).axes.stallTimer = s.axes.stallTimer ∧
    (s.settleChannel x).axes.relief = s.axes.relief ∧ (s.settleChannel x).axes.window = s.axes.window ∧
    (s.settleChannel x).axes.slackLatch = s.axes.slackLatch ∧
    (s.settleChannel x).axes.overpullLatch = s.axes.overpullLatch ∧ (s.settleChannel x).axes.topLatch = s.axes.topLatch ∧
    (s.settleChannel x).axes.topCount = s.axes.topCount ∧ (s.settleChannel x).axes.topState = s.axes.topState ∧
    (s.settleChannel x).axes.limits = s.axes.limits ∧
    (s.settleChannel x).axes.union = s.axes.union ∧ (s.settleChannel x).axes.sinceRope = s.axes.sinceRope ∧
    (s.settleChannel x).axes.sinceSled = s.axes.sinceSled := by
  simp [State.settleChannel, State.onAxes]

/-- Settling one channel keeps every channel's mode, request, brake output, standing request and fall, and the other channels whole. -/
theorem State.settleChannel_channel (x y : Axis) (s : State) :
    ((s.settleChannel x).axes.get y).mode = (s.axes.get y).mode ∧ ((s.settleChannel x).axes.get y).request = (s.axes.get y).request ∧
    ((s.settleChannel x).axes.get y).brakeApplied = (s.axes.get y).brakeApplied ∧
    ((s.settleChannel x).axes.get y).standing = (s.axes.get y).standing ∧
    ((s.settleChannel x).axes.get y).fastRate = (s.axes.get y).fastRate ∧
    (s.sup.inFault (motionInput y) = false → ((s.settleChannel x).axes.get y).atRest = (s.axes.get y).atRest) ∧
    (x ≠ y → (s.settleChannel x).axes.get y = s.axes.get y) := by
  by_cases h : x = y
  · subst h; simp only [State.settleChannel, State.onAxes, Axes.get_modify, if_true]
    refine ⟨?_, ?_, ?_, ?_, ?_, ?_, ?_⟩
    · split <;> rfl
    · split <;> rfl
    · split <;> rfl
    · split <;> rfl
    · split <;> rfl
    · intro hf; rw [if_neg (by simp [hf])]
    · intro hn; exact absurd rfl hn
  · simp [State.settleChannel, State.onAxes, h]

theorem State.settleTension_calm {s : State} (h1 : s.axes.hoist.mode ≠ .tension) (h2 : s.axes.keptTension = none) :
    s.settleTension = s := by simp [State.settleTension, h1, h2]

@[simp] theorem State.settleTension_axes (s : State) :
    s.settleTension.axes.governor = s.axes.governor ∧ s.settleTension.axes.sledGoal = s.axes.sledGoal ∧
    s.settleTension.axes.gear = s.axes.gear ∧ s.settleTension.axes.shift = s.axes.shift ∧
    s.settleTension.axes.queuedShift = s.axes.queuedShift ∧
    s.settleTension.axes.shiftTimer = s.axes.shiftTimer ∧ s.settleTension.axes.valve = s.axes.valve ∧
    s.settleTension.axes.stallTimer = s.axes.stallTimer ∧
    s.settleTension.axes.relief = s.axes.relief ∧ s.settleTension.axes.window = s.axes.window ∧
    s.settleTension.axes.slackLatch = s.axes.slackLatch ∧
    s.settleTension.axes.overpullLatch = s.axes.overpullLatch ∧ s.settleTension.axes.topLatch = s.axes.topLatch ∧
    s.settleTension.axes.topCount = s.axes.topCount ∧ s.settleTension.axes.topState = s.axes.topState ∧
    s.settleTension.axes.limits = s.axes.limits ∧
    s.settleTension.axes.union = s.axes.union ∧ s.settleTension.axes.sinceRope = s.axes.sinceRope ∧
    s.settleTension.axes.sinceSled = s.axes.sinceSled ∧ s.settleTension.axes.crowd = s.axes.crowd ∧
    s.settleTension.axes.rotary = s.axes.rotary ∧ s.settleTension.axes.hoist.atRest = s.axes.hoist.atRest ∧
    (s.axes.hoist.mode ≠ .tension → s.axes.keptTension = none →
      s.settleTension.axes.hoist = s.axes.hoist ∧ s.settleTension.axes.keptTension = none) := by
  simp only [State.settleTension, State.onAxes, State.enterTension, Channel.leaveTension]
  refine ⟨?_, ?_, ?_, ?_, ?_, ?_, ?_, ?_, ?_, ?_, ?_, ?_, ?_, ?_, ?_, ?_, ?_, ?_, ?_, ?_, ?_, ?_, ?_⟩ <;>
    first
    | (intro h1 h2; simp [h1, h2]; done)
    | ((repeat' split) <;> rfl)

/-- Settling keeps everything of the channels but the three channel records and a kept TENSION request. -/
@[simp] theorem State.settle_axes (s : State) :
    s.settle.axes.governor = s.axes.governor ∧ s.settle.axes.sledGoal = s.axes.sledGoal ∧
    s.settle.axes.gear = s.axes.gear ∧ s.settle.axes.shift = s.axes.shift ∧ s.settle.axes.queuedShift = s.axes.queuedShift ∧
    s.settle.axes.shiftTimer = s.axes.shiftTimer ∧ s.settle.axes.valve = s.axes.valve ∧
    s.settle.axes.stallTimer = s.axes.stallTimer ∧
    s.settle.axes.relief = s.axes.relief ∧ s.settle.axes.window = s.axes.window ∧
    s.settle.axes.slackLatch = s.axes.slackLatch ∧
    s.settle.axes.overpullLatch = s.axes.overpullLatch ∧ s.settle.axes.topLatch = s.axes.topLatch ∧
    s.settle.axes.topCount = s.axes.topCount ∧ s.settle.axes.topState = s.axes.topState ∧
    s.settle.axes.limits = s.axes.limits ∧
    s.settle.axes.union = s.axes.union ∧ s.settle.axes.sinceRope = s.axes.sinceRope ∧
    s.settle.axes.sinceSled = s.axes.sinceSled := by
  simp [State.settle]

/-- Settling keeps the mode, the request, the brake output, the standing request and the fall of the crowd and the rotary, and of a hoist
that is not in TENSION and keeps no TENSION request. -/
theorem State.settle_channel (y : Axis) (s : State) (h : y = .hoist → s.axes.hoist.mode ≠ .tension ∧ s.axes.keptTension = none) :
    (s.settle.axes.get y).mode = (s.axes.get y).mode ∧ (s.settle.axes.get y).request = (s.axes.get y).request ∧
    (s.settle.axes.get y).brakeApplied = (s.axes.get y).brakeApplied ∧ (s.settle.axes.get y).standing = (s.axes.get y).standing ∧
    (s.settle.axes.get y).fastRate = (s.axes.get y).fastRate ∧
    (s.sup.inFault (motionInput y) = false → (s.settle.axes.get y).atRest = (s.axes.get y).atRest) := by
  have h1 := State.settleChannel_channel .rotary y ((s.settleTension.settleChannel .hoist).settleChannel .crowd)
  have h2 := State.settleChannel_channel .crowd y (s.settleTension.settleChannel .hoist)
  have h3 := State.settleChannel_channel .hoist y s.settleTension
  have ht := State.settleTension_axes s
  have h4 : s.settleTension.axes.get y = s.axes.get y := by
    cases y with
    | hoist => exact (ht.2.2.2.2.2.2.2.2.2.2.2.2.2.2.2.2.2.2.2.2.2.2 (h rfl).1 (h rfl).2).1
    | crowd => exact ht.2.2.2.2.2.2.2.2.2.2.2.2.2.2.2.2.2.2.2.1
    | rotary => exact ht.2.2.2.2.2.2.2.2.2.2.2.2.2.2.2.2.2.2.2.2.1
  simp only [State.settle]
  refine ⟨?_, ?_, ?_, ?_, ?_, ?_⟩
  · rw [h1.1, h2.1, h3.1, h4]
  · rw [h1.2.1, h2.2.1, h3.2.1, h4]
  · rw [h1.2.2.1, h2.2.2.1, h3.2.2.1, h4]
  · rw [h1.2.2.2.1, h2.2.2.2.1, h3.2.2.2.1, h4]
  · rw [h1.2.2.2.2.1, h2.2.2.2.2.1, h3.2.2.2.2.1, h4]
  · intro hf
    rw [h1.2.2.2.2.2.1 (by simpa using hf), h2.2.2.2.2.2.1 (by simpa using hf), h3.2.2.2.2.2.1 (by simpa using hf), h4]

/-- A channel that stands BRAKED with its request zero stands so after settling, at zero. -/
theorem State.settle_braked (y : Axis) (s : State) (hm : (s.axes.get y).mode = .braked) (hk : y = .hoist → s.axes.keptTension = none) :
    (s.settle.axes.get y).setpoint = 0 ∧ (s.settle.axes.get y).demand = 0 := by
  have ht : s.settleTension.axes.get y = s.axes.get y := by
    cases y with
    | hoist => rw [State.settleTension_calm]; · intro h; simp only [Axes.get] at hm; rw [hm] at h; cases h
               · exact hk rfl
    | crowd => simp [Axes.get]
    | rotary => simp [Axes.get]
  have key : ∀ (s : State), (s.axes.get y).mode = .braked →
      ((s.settleChannel y).axes.get y).setpoint = 0 ∧ ((s.settleChannel y).axes.get y).demand = 0 := by
    intro s hm
    have hb : ∀ s' : State, (s'.axes.get y).mode = .braked → s'.bounds y = (0, 0) ∧ s'.channelMax y = 0 := by
      intro s' h; cases y <;> simp_all [State.bounds, State.channelMax, Axes.get]
    have hd : ∀ s' : State, (s'.axes.get y).mode = .braked → s'.demandOf y = 0 := by
      intro s' h; simp [State.demandOf, (hb s' h).2]
    simp only [State.settleChannel, State.onAxes, Axes.get_modify, if_true]
    constructor
    · split
      · show (clampTo _ _ _) = 0
        rw [(hb _ (by simpa using hm)).1]; simp [clampTo] <;> omega
      · show (clampTo _ _ _) = 0
        rw [(hb _ (by simpa using hm)).1]; simp [clampTo] <;> omega
    · apply hd; simp only [Axes.get_modify, if_true]; split <;> simpa using hm
  simp only [State.settle]
  cases y with
  | hoist =>
    have h1 := key s.settleTension (by rw [ht]; exact hm)
    rw [(State.settleChannel_channel .rotary .hoist _).2.2.2.2.2.2 (by simp), (State.settleChannel_channel .crowd .hoist _).2.2.2.2.2.2 (by simp)]
    exact h1
  | crowd =>
    have h2 := key (s.settleTension.settleChannel .hoist) (by rw [(State.settleChannel_channel .hoist .crowd _).1, ht]; exact hm)
    rw [(State.settleChannel_channel .rotary .crowd _).2.2.2.2.2.2 (by simp)]
    exact h2
  | rotary =>
    exact key _ (by rw [(State.settleChannel_channel .crowd .rotary _).1, (State.settleChannel_channel .hoist .rotary _).1, ht]; exact hm)

/-! ### Under overload (R126) -/

/-- An overloaded setpoint keeps its side of zero and does not rise. -/
theorem unrisen_falls (now next : Int) :
    magnitude (unrisen now next) ≤ magnitude now ∧ (0 ≤ now → 0 ≤ unrisen now next) ∧ (now ≤ 0 → unrisen now next ≤ 0) := by
  simp only [unrisen, magnitude]
  (repeat' split) <;> omega

/-- A move toward zero or past it is taken as far as zero. -/
theorem unrisen_toward_zero {now next : Int} (h : 0 ≤ now) (hn : next ≤ now) : unrisen now next = max 0 next := by
  simp only [unrisen]; split <;> omega

/-! ### A speed asked of the rotary (R94, R122, R125) -/

/-- A rotary in SPEED whose setpoint stands at its goal has the arrival to report; nothing else of it changes. -/
theorem State.arrive_rotary (s : State) : s.arrive.axes = { s.axes with rotary := { s.axes.rotary with
    reached := s.axes.rotary.reached ||
      (s.axes.rotary.mode = .speed && s.axes.rotary.setpoint != 0 && s.axes.rotary.setpoint = s.goal .rotary) } } := rfl

/-- A phase request to another axis reports nothing of the rotary. -/
@[simp] theorem State.arriveOn_other {x : Axis} (h : x ≠ .rotary) (s : State) : s.arriveOn x = s := by simp [State.arriveOn, h]

@[simp] theorem State.arriveOn_rotary (s : State) : s.arriveOn .rotary = s.arrive := rfl

end Sys2Proof.Machine
end

