-- ==== Sys2Proof/Laws/Commands.lean ====
section
/-! SUPPORT. What the shared operations of the commands do: taking a held request (R177, R178), a sample at its input (R41), progress with
nothing waiting for rest, setting flags (R182, R183), settling the channels. -/
namespace Sys2Proof.Machine

/-! ### Taking a request -/

/-- The state with the oldest request of a link taken out of its buffer. -/
theorem State.taking_of_waits {l : Link} {q : Request} {rest : List Request} {s : State} (h : s.waits l q rest)
    (act : Request → State → State) :
    s.taking l q.row act =
      (let s' := s.onLink l fun c => { c with buffer := rest }
       if q.vet l = .ok then act q s' else s'.refuse l q (q.vet l)) := by
  obtain ⟨hu, hb⟩ := h
  have he : (s.onLink l fun c => { c with buffer := c.buffer.tail }) = s.onLink l fun c => { c with buffer := rest } := by
    cases l <;> simp_all [State.onLink, PerLink.modify, PerLink.get]
  simp [State.taking, State.oldest, hb, he, Option.filter]

/-- Answering after the request has left the buffer. -/
theorem State.answer_taken {l : Link} {q : Request} {rest : List Request} {s : State} (h : s.waits l q rest) (r : Result) (v : Int) :
    (s.onLink l fun c => { c with buffer := rest }).answer l q r v = s.answered l q rest r v := by
  obtain ⟨hu, hb⟩ := h
  cases l <;> simp_all [State.onLink, State.answer, State.answered, PerLink.modify, PerLink.get, LinkCtl.join, LinkCtl.answered]

/-- A command that takes requests has no effect while the oldest request is another's, or none is held. -/
theorem State.taking_none {l : Link} {r : Row} {s : State} (h : ∀ q, (s.links.get l).buffer.head? = some q → q.row ≠ r)
    (act : Request → State → State) : s.taking l r act = s := by
  simp only [State.taking, State.oldest]
  cases hb : (s.links.get l).buffer.head? with
  | none => simp
  | some q => simp [Option.filter, h q hb]

/-- The links after an answer to the request taken out of the buffer. -/
theorem State.answered_links {l : Link} {q : Request} {rest : List Request} {s : State} (h : s.waits l q rest) (r : Result) (v : Int) :
    ((s.onLink l fun c => { c with buffer := rest }).links.modify l fun c =>
      c.join (.response ⟨q.tag, r, q.object, q.sub, v, false⟩)) = s.links.modify l (LinkCtl.answered q rest r v) :=
  congrArg State.links (State.answer_taken h r v)

/-- A request that names a field names an object of the map other than the demand object. -/
theorem Request.field_some {q : Request} {f : Field} (h : q.field = some f) :
    q.object ≠ 0x7F00 ∧ (objectFields q.object).isNone = false := by
  constructor
  · intro ho; simp [Request.field, ho, objectFields, within] at h
  · cases ho : objectFields q.object with
    | none => simp [Request.field, ho] at h
    | some _ => rfl

/-- The checks of a request that is no demand and names a field: the rights alone are left. -/
theorem Request.vet_field {q : Request} {f : Field} {l : Link} (h : q.field = some f) (hk : q.kind < 5) :
    q.vet l = if f.allows l q.kind then .ok else .access := by
  obtain ⟨h1, h2⟩ := Request.field_some h
  have h3 : ¬ 5 < q.kind := by omega
  have h4 : q.kind ≠ 5 := by omega
  simp [Request.vet, h3, h2, kindDemand, h4, h1, h]

/-- Taking a request on a field within the link's rights. -/
theorem State.taking_field {l : Link} {q : Request} {rest : List Request} {s : State} {f : Field} {r : Row} (h : s.waits l q rest)
    (hf : q.field = some f) (hk : q.kind < 5) (hr : q.row = r) (ha : f.allows l q.kind = true) (act : Request → State → State) :
    s.taking l r act = act q (s.onLink l fun c => { c with buffer := rest }) := by
  subst hr
  rw [State.taking_of_waits h]
  simp [Request.vet_field hf hk, ha]

/-- Taking a demand from the link it belongs to. -/
theorem State.taking_demand {l : Link} {q : Request} {rest : List Request} {s : State} {sub : Nat} {d : Demand}
    (h : s.demands l sub q rest) (hd : demandAt sub = some d) (hl : d.link = l) (act : Request → State → State) :
    s.taking l (.demand d) act = act q (s.onLink l fun c => { c with buffer := rest }) := by
  obtain ⟨hw, hk, ho, hs⟩ := h
  have hr : q.row = .demand d := by simp [Request.row, hk, ho, hs, kindDemand, hd]
  have hv : q.vet l = .ok := by simp [Request.vet, hk, ho, hs, kindDemand, hd, hl, objectFields, within]
  have := State.taking_of_waits hw act
  rw [hr] at this
  rw [this]
  simp [hv]

/-- A WRITE of a field is taken by the field's row. -/
theorem Request.row_write {q : Request} {f : Field} (hf : q.field = some f) (hk : q.kind = 1) : q.row = f.writeRow := by
  simp [Request.row, hk, kindDemand, kindWrite, hf]

/-- Every command that takes requests runs `taking` on its row. -/
theorem exec_row (l : Link) (r : Row) (s : State) : ∃ act, exec (r.command l) s = .next (s.taking l r act) := by
  cases r with
  | demand d => cases d <;> exact ⟨_, rfl⟩
  | _ => exact ⟨_, rfl⟩

/-- A request that fails a check is only answered. -/
theorem exec_refused {l : Link} {q : Request} {rest : List Request} {s : State} {r : Result} (h : s.waits l q rest) (hv : q.vet l = r)
    (hr : r ≠ .ok) : exec (q.row.command l) s = .next (s.answered l q rest r 0) := by
  obtain ⟨act, ha⟩ := exec_row l q.row s
  rw [ha, State.taking_of_waits h]
  simp only [hv, hr, if_false, State.refuse]
  rw [State.answer_taken h]

/-- Taking a request keeps what its rule and the answer keep. -/
theorem State.taking_keeps {α : Type} (g : State → α) (l : Link) (r : Row) (act : Request → State → State) (s : State)
    (hl : ∀ (x : PerLink LinkCtl) (s : State), g { s with links := x } = g s) (ha : ∀ q s, g (act q s) = g s) :
    g (s.taking l r act) = g s := by
  simp only [State.taking]
  split
  · rfl
  · split
    · rw [ha]; exact hl _ _
    · simp only [State.refuse, State.answer, State.onLink]; rw [hl, hl]

/-! ### Flags -/

/-- Setting flags, in full. -/
theorem LinkCtl.setFlags_eq (c : LinkCtl) (v : FlagSet) :
    c.setFlags v = { c with
      flags := c.flags ||| v
      queue := if c.up = true ∧ TxFrame.notice ∉ c.queue ∧ v &&& ~~~c.flags &&& c.enables ≠ 0 then c.queue ++ [.notice]
        else c.queue } := by
  have hn : (c.queue.any fun f => decide (f = TxFrame.notice)) = decide (TxFrame.notice ∈ c.queue) := by
    rw [Bool.eq_iff_iff]; simp
  simp only [LinkCtl.setFlags, LinkCtl.noticeDue, LinkCtl.noticeWaiting, hn]
  by_cases h : v &&& ~~~c.flags &&& c.enables = 0
  · rw [if_pos h, if_neg (fun x => x.2.2 h)]
  · rw [if_neg h]
    by_cases hu : c.up = true <;> by_cases hq : TxFrame.notice ∈ c.queue <;> simp_all

/-- Setting flags that are set already changes nothing. -/
theorem LinkCtl.setFlags_again (c : LinkCtl) (v : FlagSet) : (c.setFlags v).setFlags v = c.setFlags v := by
  have h : v &&& ~~~(c.setFlags v).flags &&& (c.setFlags v).enables = 0 := by
    simp only [LinkCtl.setFlags_spec]; ext i; simp; intro h1 h2; simp [h1]
  have h2 : (c.setFlags v).flags ||| v = (c.setFlags v).flags := by
    simp only [LinkCtl.setFlags_spec]; ext i; simp
  rw [LinkCtl.setFlags_eq (c.setFlags v), if_neg (fun x => x.2.2 h), h2]

/-! ### Progress -/

/-- With no stroke in flight, no rotation and no re-seat check, nothing waits for an axis to come to rest. -/
theorem State.progress_quiet {s : State} (h : s.Quiet) : s.progress = s := by
  obtain ⟨h1, h2, h3⟩ := h
  have a1 : s.progressRotation = s := by simp [State.progressRotation, h2]
  have a2 : s.progressReseat = s := by simp [State.progressReseat, h3]
  have a3 : s.progressRelief = s := by simp only [State.progressRelief, h1]; split <;> simp_all
  have a4 : s.progressPhase = s := by simp [State.progressPhase, h1]
  simp [State.progress, a1, a2, a3, a4]

/-! ### Samples -/

/-- A valid sample at its input: the timer restarts, the fault clears, the consumers take it. -/
theorem State.sampled_valid (i : SensorInput) (take : State → State) (s : State) :
    s.sampled i true take = (take (s.markInput i (some 50) false)).settle.progress := by
  simp [State.sampled]

/-- A sample keeps what its consumers, the input's record, the channels and the progress keep. -/
theorem State.sampled_keeps {α : Type} (g : State → α) (i : SensorInput) (valid : Bool) (take : State → State) (s : State)
    (h1 : ∀ t f s, g (s.markInput i t f) = g s) (h2 : ∀ s, g (take s) = g s) (h3 : ∀ s, g s.settle = g s) (h4 : ∀ s, g s.progress = g s) :
    g (s.sampled i valid take) = g s := by
  simp only [State.sampled]
  split
  · split <;> simp [State.setInput, h1, h2, h3, h4]
  · simp [h1, h2, h3, h4]

/-! ### Time -/

/-- A millisecond of a channel changes the channels alone. -/
@[simp] theorem State.tickChannel_keeps (x : Axis) (s : State) :
    (s.tickChannel x).kelly = s.kelly ∧ (s.tickChannel x).seq = s.seq ∧ (s.tickChannel x).env = s.env ∧
    (s.tickChannel x).sup = s.sup ∧ (s.tickChannel x).links = s.links := by
  simp [State.tickChannel]

/-! ### Resets -/

/-- What a unit reset keeps of the model's own fields. -/
@[simp] theorem State.unitReset_keeps (s : State) :
    s.unitReset.pending = s.pending ∧ s.unitReset.free = s.free ∧ s.unitReset.resetLine = s.resetLine := by
  simp [State.unitReset]

end Sys2Proof.Machine
end

