-- ==== Sys2Proof/Laws/Samples.lean ====
section
/-! SUPPORT. What a valid sample does to the supervision of its input before its value is taken (R41), and a rotary speed
sample to the stroke in flight (R97). -/
namespace Sys2Proof.Machine

/-- A valid sample clears no group's last clean state: the group's vector is not raised by it. -/
theorem State.groupInFault_heard (i : SensorInput) (s : State) :
    (!s.groupInFault (groupVector i) && State.groupInFault (groupVector i) { s with sup := s.sup.heard i }) = false := by
  cases hb : s.groupInFault (groupVector i) with
  | true => rfl
  | false =>
    simp only [State.groupInFault, List.any_eq_false, Bool.and_eq_true, not_and, decide_eq_true_eq] at hb
    simp only [Bool.not_false, Bool.true_and, State.groupInFault, List.any_eq_false, Bool.and_eq_true, not_and, decide_eq_true_eq]
    intro j hj hg
    have := hb j hj hg
    simp only [Supervision.inFault, Supervision.heard] at this ⊢
    rw [Fin.getElem_fin, Vector.getElem_set]
    split
    · simp
    · exact this

/-- A valid sample starts its input's timer afresh and clears its fault; nothing else changes before its value is taken. -/
theorem State.markInput_clean (i : SensorInput) (s : State) :
    s.markInput i (some 50) false = { s with sup := s.sup.heard i } := by
  have h := State.groupInFault_heard i s
  simp only [Supervision.heard] at h
  simp only [State.markInput, Supervision.heard]
  rw [h]; rfl

/-! ### Rotary speed (R97, R127) -/

/-- Outside RAMP_DOWN a rest leaves the window watch as it is. -/
@[simp] theorem Stroke.restWatch_other (rest : Bool) {t : Stroke} (h : t.phase ≠ .rampDown) : t.restWatch rest = t := by
  simp [Stroke.restWatch, h]

/-- A rest in RAMP_DOWN ends the window watch and nothing else. -/
theorem Stroke.restWatch_rampDown {t : Stroke} (h : t.phase = .rampDown) : t.restWatch true = { t with windowWatch := false } := by
  simp [Stroke.restWatch, h]

/-- What a rotary speed sample leaves in the sequencer: the stroke in flight, its window watch ended where the rotary rests in RAMP_DOWN. -/
theorem State.takeSpeed_seq (x : Int) (s : State) : (s.takeSpeed x).seq =
    { s.seq with stroke := s.seq.stroke.map (Stroke.restWatch (s.axes.rotary.atRest || decide (magnitude x < 2))) } := by
  simp only [State.takeSpeed, State.testStall]; (repeat' split) <;> rfl

/-- With no stroke in flight, or one outside RAMP_DOWN, a rotary speed sample leaves the sequencer as it is. -/
theorem State.takeSpeed_seq_same (x : Int) {s : State} (h : ∀ t, s.seq.stroke = some t → t.phase ≠ .rampDown) :
    (s.takeSpeed x).seq = s.seq := by
  rw [State.takeSpeed_seq]
  cases hs : s.seq.stroke with
  | none => cases hq : s.seq; simp_all
  | some t => cases hq : s.seq; simp_all

/-! ### Gear (R42, R135) -/

/-- A gear that is lost leaves no stall timer: without a measured torque there is no stall condition. -/
theorem State.setGear_lost {s : State} (h : s.axes.gear ≠ none) :
    (s.setGear none).axes.gear = none ∧ (s.setGear none).kelly.torque = none ∧ (s.setGear none).axes.stallTimer = none := by
  simp [State.setGear, h, State.testStall, State.stalled, State.onAxes, State.onKelly, State.trigger]

end Sys2Proof.Machine
end

