-- ==== Sys2Proof/Laws/Strokes.lean ====
section
/-! SUPPORT. What closing and completing a stroke, a phase boundary, taking an entry and running the sequencer do (R67 to R70, R79), and what the start checks decide (R69). -/
namespace Sys2Proof.Machine

theorem State.settlePark_plain {o : Order} {t : Stroke} {s : State}
    (h : o.kind ≠ .park ∨ (t.parkDue = none ∧ s.ctl.latchRequest = false)) : s.settlePark o t = s := by
  rcases h with h | ⟨h1, h2⟩
  · simp [State.settlePark, h]
  · simp [State.settlePark, State.lapse, h1, h2]

/-! ### Closing a stroke and passing a boundary (R70, R79) -/

/-- A closed stroke has no phase left and no timer of a phase; the rest of its record and of the sequencer stays. -/
theorem State.closeStroke_seq (s : State) :
    s.closeStroke.seq = { s.seq with stroke := s.seq.stroke.map fun t => { t with
      closed := true, sledWatch := none, rotationLimit := none, dwell := none, releaseDwell := none, unseatWatch := none
      stuckWatch := none } } := rfl

/-- Closing a stroke ends the stall timer, the relief turn and the no-advance window, and nothing else of the channels. -/
theorem State.closeStroke_axes (s : State) :
    s.closeStroke.axes = { s.axes with stallTimer := none, relief := none, window := none } := rfl

/-- A stroke that is not inhibited passes a phase boundary. -/
theorem State.boundary_passes {s : State} {x : Stroke} (hx : s.seq.stroke = some x) (h : x.inhibited = false) (next : State → State) :
    s.boundary next = next s := by
  simp [State.boundary, hx, h]

/-- An inhibited stroke stops at a phase boundary: its outcome decided, its end state at least HELD, closed, its channels stopped. -/
theorem State.boundary_stops {s : State} {x : Stroke} (hx : s.seq.stroke = some x) (h : x.inhibited = true) (next : State → State) :
    s.boundary next =
      (s.onStroke fun t => (t.decideOutcome .refused (some .inhibited)).raiseEnd .held).closeStroke.stopStroke := by
  simp [State.boundary, hx, h]

/-- With no phase left, or after what has met it, a stroke waits for nothing: its phase makes no progress (R70, R171). -/
theorem State.progressPhase_idle {s : State} {x : Stroke} (hx : s.seq.stroke = some x) (h : x.closed = true ∨ x.met = true) :
    s.progressPhase = s := by
  rcases h with h | h <;> simp [State.progressPhase, hx, h]

/-- A stroke written back: its entry returned with its record, the next index past it, no stroke in flight, STROKE_DONE set. -/
theorem State.writeBack_spec (d : Option Int) {t : Stroke} {s : State}
    (h : (s.orderOf t).kind ≠ .park ∨ (t.parkDue = none ∧ s.ctl.latchRequest = false)) :
    (s.writeBack d t).ring = s.ring.set t.index ⟨.console, s.orderOf t,
      some ⟨t.outcome.getD .aborted, t.reason, some { t.figures with endDepth := d }⟩⟩ ∧
    (s.writeBack d t).seq = { s.seq with next := t.index + 1, stroke := none } ∧
    (s.writeBack d t).links = (s.setFlagsAll flagStrokeDone).links ∧
    (s.writeBack d t).kelly = { s.kelly with unseatFailedDue := false } ∧ (s.writeBack d t).ctl = s.ctl := by
  simp only [State.writeBack]
  rw [State.settlePark_plain (by simpa using h)]
  by_cases hd : s.kelly.unseatFailedDue = true
  · simp [hd, State.onKelly, State.setFlagsAll]
  · have hf : s.kelly.unseatFailedDue = false := by simpa using hd
    have hk : s.kelly = { s.kelly with unseatFailedDue := false } := by cases hs : s.kelly; simp_all
    simp [hf, State.setFlagsAll, ← hk]

/-- Running from another state with the next entry CONSOLE-owned: the sequencer is SUSPENDED. -/
theorem State.run_console {s : State} (h : s.ring[s.seq.next].owner = .console) (hs : s.seq.state ≠ .running) :
    s.run = ({ s with seq := { s.seq with state := .suspended } } : State).setFlagsAll flagSeqState := by
  simp only [State.run, State.setSeqState, hs, if_false, State.takeEntry, State.setFlagsAll, h, if_true]
  simp only [PerLink.map, LinkCtl.setFlags_again]
  simp

/-! ### The start checks (R69) -/

/-- A table of decided conditions and the table of the conditions themselves. -/
abbrev Decides : List (Bool × Reason) → List (Prop × Reason) → Prop := List.Forall₂ fun b p => (b.1 = true ↔ p.1) ∧ b.2 = p.2

theorem firstReason_some_iff {l : List (Bool × Reason)} {t : List (Prop × Reason)} (h : Decides l t) (r : Reason) :
    firstReason l = some r ↔ FirstHolds t r := by
  induction h with
  | nil => simp [firstReason, FirstHolds]
  | @cons b p _ _ hb _ ih =>
    obtain ⟨b, x⟩ := b
    obtain ⟨h1, h2⟩ := hb
    cases b <;> (simp_all [firstReason, FirstHolds]; try exact eq_comm)

theorem firstReason_none_iff {l : List (Bool × Reason)} {t : List (Prop × Reason)} (h : Decides l t) :
    firstReason l = none ↔ NoneHolds t := by
  induction h with
  | nil => simp [firstReason, NoneHolds]
  | @cons b p _ _ hb _ ih =>
    obtain ⟨b, x⟩ := b
    obtain ⟨h1, h2⟩ := hb
    cases b <;> simp_all [firstReason, NoneHolds]

theorem permits_iff (m : UnitMode) (k : Kind) : permits m k = true ↔ Permitted m k := by
  cases m <;> simp [permits, Permitted, or_assoc]

theorem State.startInhibited_iff (o : Order) (s : State) : s.startInhibited o = true ↔ s.Barred o := by
  cases h : o.ownDirection <;>
    simp [State.startInhibited, State.Barred, State.needsShift, h, and_assoc]

/-- The own checks of a kind decide its table. -/
theorem State.ownReason_decides (o : Order) (s : State) : ∃ l, s.ownReason o = firstReason l ∧ Decides l (s.ownChecks o) := by
  have hwin : s.sledWindow = (s.sledLow, s.sledHigh) := by
    cases hk : s.kelly.known <;> simp [State.sledWindow, State.sledLow, State.sledHigh, hk]
  cases hk : o.kind
  case none | dwell => exact ⟨[], by simp [State.ownReason, hk, firstReason], by simp [State.ownChecks, hk]⟩
  case bore =>
    by_cases hb : o.boreMode = some .hanging
    · have hh : o.isHanging = true := by simp [Order.isHanging, hk, hb]
      refine ⟨_, by simp only [State.ownReason, hk, hh, if_true]; rfl, ?_⟩
      simp [State.ownChecks, hk, hb, State.firstEngaged, Profile.members]
    · have hh : o.isHanging = false := by simp [Order.isHanging, hb]
      refine ⟨_, by simp only [State.ownReason, hk, hh, Bool.false_eq_true, if_false]; rfl, ?_⟩
      simp [State.ownChecks, hk, hb]
  case park =>
    by_cases hb : o.parkKind = some .latch
    · refine ⟨_, by simp only [State.ownReason, hk, hb, if_true]; rfl, ?_⟩
      simp [State.ownChecks, hk, hb]
    · refine ⟨_, by simp only [State.ownReason, hk, hb, if_false]; rfl, ?_⟩
      simp [State.ownChecks, hk, hb, State.allReleased, hwin, or_assoc, Profile.members]
  case sled =>
    refine ⟨_, by simp only [State.ownReason, hk]; rfl, ?_⟩
    cases h0 : s.kelly.st 0 <;> simp [State.ownChecks, hk, h0, IfState.isEngaged, IfState.isSeating, IfState.isUnseating]
  case release =>
    refine ⟨_, by simp only [State.ownReason, hk]; rfl, ?_⟩
    simp [State.ownChecks, hk, Profile.members]
  case survey =>
    refine ⟨_, by simp only [State.ownReason, hk]; rfl, ?_⟩
    cases ht : s.kelly.tension <;> cases hw : s.limits.dry.total <;>
      simp [State.ownChecks, hk, State.dryOffBottom, ht, hw]
  case engage =>
    refine ⟨_, by simp only [State.ownReason, hk, State.engageReason]; rfl, ?_⟩
    simp [State.ownChecks, hk]
  all_goals
    refine ⟨_, by simp only [State.ownReason, hk]; rfl, ?_⟩
    simp [State.ownChecks, hk, State.allReleased, Profile.members]

/-- The reason of the own checks is that of the first row of the table that holds. -/
theorem State.ownReason_some_iff (o : Order) (s : State) (r : Reason) : s.ownReason o = some r ↔ FirstHolds (s.ownChecks o) r := by
  obtain ⟨l, he, hd⟩ := s.ownReason_decides o
  rw [he, firstReason_some_iff hd]

/-- The own checks pass exactly where no row of the table holds. -/
theorem State.ownReason_none_iff (o : Order) (s : State) : s.ownReason o = none ↔ NoneHolds (s.ownChecks o) := by
  obtain ⟨l, he, hd⟩ := s.ownReason_decides o
  rw [he, firstReason_none_iff hd]

/-- Every start check of R69 passes. -/
theorem State.passes_iff (o : Order) (s : State) :
    s.Passes o ↔ permits s.ctl.mode o.kind = true ∧ s.startInhibited o = false ∧ s.ownReason o = none := by
  rw [State.Passes, ← permits_iff, ← State.startInhibited_iff, ← State.ownReason_none_iff, Bool.not_eq_true]

/-- The start checks refuse a taken entry exactly as R69 fails it. -/
theorem State.startReason_some_iff (o : Order) (s : State) (r : Reason) : s.startReason o = some r ↔ s.Fails o r := by
  simp only [State.startReason, State.Fails, ← permits_iff, ← State.startInhibited_iff, ← State.ownReason_some_iff]
  cases hp : permits s.ctl.mode o.kind <;> cases hi : s.startInhibited o <;>
    by_cases hk : o.kind = .engage <;> cases hr : s.kelly.releaseSettle <;> simp [hk, eq_comm]

/-- The start checks let a taken entry begin exactly where R69 fails none that is made at its taking. -/
theorem State.startReason_none_iff (o : Order) (s : State) : s.startReason o = none ↔ s.MayBegin o := by
  rw [State.MayBegin, State.passes_iff]
  simp only [State.startReason, ← permits_iff, ← State.startInhibited_iff]
  cases hp : permits s.ctl.mode o.kind <;> cases hi : s.startInhibited o <;>
    by_cases hk : o.kind = .engage <;> cases hr : s.kelly.releaseSettle <;> simp_all

/-! ### The advance allowance (R97) -/

/-- The first index of a condition among 0 to n − 1. -/
theorem find?_finRange_iff {n : Nat} (p : Fin n → Bool) (j : Fin n) :
    (List.finRange n).find? p = some j ↔ p j = true ∧ ∀ i : Fin n, i.val < j.val → p i = false := by
  rw [List.find?_eq_some_iff_getElem]
  constructor
  · rintro ⟨h, i, hi, he, hn⟩
    refine ⟨h, fun k hk => ?_⟩
    have hj : i = j.val := by rw [← he]; simp
    have := hn k.val (by omega)
    simpa using this
  · rintro ⟨h, hn⟩
    refine ⟨h, j.val, by simp, by simp, fun k hk => ?_⟩
    have := hn ⟨k, by omega⟩ hk
    simp [this]

/-- The window that the advance of an interface meets first (R97). -/
theorem State.windowAhead_iff (s : State) (k : Fin 5) (e : Int) :
    s.WindowAhead k e ↔ ∃ j, (s.profile.stations k).find? (fun j => decide (s.kelly.pos k < j.2 - 40)) = some j ∧
      j.2 - 40 ≤ s.profile.travel k ∧ e = j.2 - 40 := by
  simp only [Profile.stations, List.find?_filterMap, List.find?_filter, Option.bind_eq_some_iff, find?_finRange_iff, State.WindowAhead, Fin.getElem_fin]
  constructor
  · rintro ⟨j, x, hj, hx, rfl, h1, h2, h3⟩
    refine ⟨(j, x), ⟨j, ⟨?_, fun i hi => ?_⟩, ?_⟩, h2, rfl⟩
    · simp [hj, hx, h1]
    · cases hy : s.profile.interfaces[k.val].stations[i.val] with
      | none => simp
      | some y => simpa [hy] using fun _ => h3 i y hi hy
    · simp [hx]
  · rintro ⟨⟨_, x⟩, ⟨j, ⟨h1, h3⟩, hx⟩, h2, rfl⟩
    simp only [Option.map_eq_some_iff, Prod.mk.injEq] at hx
    obtain ⟨y, hy, rfl, rfl⟩ := hx
    simp only [hy, Option.map_some, Option.any_some, decide_eq_true_eq] at h1
    refine ⟨j, y, h1.1, hy, rfl, h1.2, h2, fun i z hi hz => ?_⟩
    have := h3 i hi
    have hc : (i.val : Int) < fig s.profile.interfaces[k.val].count := by have := h1.1; omega
    simpa [hz, hc] using this

/-- The walk of the allowance over a list of interfaces in their order: to the first window ahead, or over all that is free (R97). -/
theorem State.allowanceWalk_spec (s : State) (ks : List (Fin 5)) (hs : ks.Pairwise (· < ·)) (e : Int) :
    let left (k : Fin 5) : Int := s.profile.travel k - s.kelly.pos k
    let free := ks.filter fun k => (s.kelly.st k).isReleased
    (∀ k w, k ∈ free → s.WindowAhead k w → (∀ i ∈ free, i.val < k.val → ∀ e', ¬ s.WindowAhead i e') →
      allowanceWalk s.profile s.kelly ks e = e + ((free.filter fun i => i.val < k.val).map left).sum + (w - s.kelly.pos k) - 100) ∧
    ((∀ k ∈ free, ∀ w, ¬ s.WindowAhead k w) → allowanceWalk s.profile s.kelly ks e = e + (free.map left).sum) := by
  induction ks generalizing e with
  | nil => simp [allowanceWalk]
  | cons a ks ih =>
    intro left free
    rw [List.pairwise_cons] at hs
    obtain ⟨ha, hs⟩ := hs
    specialize ih hs
    by_cases hr : (s.kelly.st a).isReleased = true
    · have hf : free = a :: ks.filter fun k => (s.kelly.st k).isReleased := by simp [free, hr]
      by_cases hw : ∃ w, s.WindowAhead a w
      · obtain ⟨w, hw⟩ := hw
        have hw' := hw
        rw [State.windowAhead_iff] at hw'
        obtain ⟨j, hj, hle, rfl⟩ := hw'
        refine ⟨fun k w' hk hkw hn => ?_, fun hn => absurd hw (hn a (by simp [hf]) _)⟩
        have hka : k = a := by
          rw [hf, List.mem_cons] at hk
          rcases hk with rfl | hk
          · rfl
          · exact absurd hw (hn a (by simp [hf]) (ha k (List.mem_filter.1 hk).1) _)
        subst hka
        have he : w' = j.2 - 40 := by
          rw [State.windowAhead_iff] at hkw
          obtain ⟨j', hj', _, rfl⟩ := hkw
          rw [hj] at hj'; cases hj'; rfl
        have hnil : (free.filter fun i => decide (i.val < k.val)) = [] := by
          rw [List.filter_eq_nil_iff, hf]
          intro i hi
          rw [List.mem_cons] at hi
          rcases hi with rfl | hi
          · simp
          · have := ha i (List.mem_filter.1 hi).1
            simp only [decide_eq_true_eq, not_lt]; exact Nat.le_of_lt this
        simp only [allowanceWalk, hr, if_true, hj, hle, hnil, he]
        simp
      · have hwalk : allowanceWalk s.profile s.kelly (a :: ks) e = allowanceWalk s.profile s.kelly ks (e + left a) := by
          simp only [allowanceWalk, hr, if_true]
          cases hj : (s.profile.stations a).find? fun j => decide (s.kelly.pos a < j.2 - 40) with
          | none => rfl
          | some j =>
            have hle : ¬ j.2 - 40 ≤ s.profile.travel a := fun hle => hw ⟨_, (s.windowAhead_iff a _).2 ⟨j, hj, hle, rfl⟩⟩
            simp only [hle, if_false, left]
        rw [hwalk]
        refine ⟨fun k w hk hkw hn => ?_, fun hn => ?_⟩
        · rw [hf, List.mem_cons] at hk
          rcases hk with rfl | hk
          · exact absurd ⟨w, hkw⟩ hw
          · have hlt : a.val < k.val := ha k (List.mem_filter.1 hk).1
            rw [(ih (e + left a)).1 k w hk hkw fun i hi => hn i (by rw [hf]; exact List.mem_cons_of_mem _ hi), hf]
            simp only [List.filter_cons, hlt, decide_true, if_true, List.map_cons, List.sum_cons, left]
            omega
        · rw [(ih (e + left a)).2 fun k hk => hn k (by rw [hf]; exact List.mem_cons_of_mem _ hk), hf]
          simp only [List.map_cons, List.sum_cons, left]
          omega
    · have hf : free = ks.filter fun k => (s.kelly.st k).isReleased := by simp [free, hr]
      have hwalk : allowanceWalk s.profile s.kelly (a :: ks) e = allowanceWalk s.profile s.kelly ks e := by
        simp [allowanceWalk, hr]
      rw [hwalk, hf]
      exact ih e

/-- The allowance of a HANGING BORE is the one its walk gives (R97). -/
theorem State.allowance_of_is {s : State} {a : Int} (h : s.AllowanceIs a) : a = s.allowance := by
  have hs : (s.profile.members).Pairwise (· < ·) := (List.pairwise_lt_finRange 5).filter _
  have hw := s.allowanceWalk_spec _ hs 0
  simp only [Int.zero_add] at hw
  rcases h with ⟨k, e, hk, hw', hn, rfl⟩ | ⟨hn, rfl⟩
  · rw [State.allowance, hw.1 k e hk hw' hn]
  · rw [State.allowance, hw.2 hn]

end Sys2Proof.Machine
end

