-- ==== Sys2Proof/WellFormed.lean ====
section
/-! DEFINITION. Which commands can occur: a CAN frame carries at most eight bytes, and a block raises vectors 0 to 21 only.
Every other operand is held to its range by its type, or may take any value (an out-of-range sample is a sample, R41). -/
namespace Sys2Proof

/-- A CAN frame carries at most eight data bytes. -/
def Frame.wf (f : Frame) : Bool := f.data.length ≤ 8

/-- The vectors a block may raise: 22 and 23 are formed by the fault controller itself (R149). -/
def FaultVector.raisable : FaultVector → Bool
  | .compound => false
  | .reactionMissing => false
  | _ => true

/-- Which commands can occur (DESIGN CHOICE, log entry 34). -/
def Instr.wf : Instr → Bool
  | .requestArrival _ f => f.wf
  | .envelopeFrame _ f => f.wf
  | .faultRaise v => v.raisable
  | _ => true

end Sys2Proof
end

