-- ==== Sys2Proof/Tests/Slice0.lean ====
section
/-! SUPPORT. Tests against the manual's own worked figures, and for every statement with hypotheses a witness: a concrete state and
operands that meet them, each clause at its boundary. -/
namespace Sys2Proof.Tests
open Sys2Proof Sys2Proof.Machine

-- One theorem after another: each is decided by the kernel, and side by side they would hold a thread each.
set_option Elab.async false

/-! ### Small states -/

/-- The state a command leaves; the state itself where it would stop (no command does). -/
def after (c : Instr) (s : State) : State :=
  match exec c s with
  | .next t => t
  | _ => s

/-- An interface record with its stations. -/
def iface (travel push pull : Int) (at_ : List Int) : InterfaceRec :=
  ⟨some travel, some push, some pull, some (at_.length : Int), Vector.ofFn fun j => at_[j.val]?⟩

/-- The four-section kelly of the 45.5 m case (06_drive_limits.md 6.10; 01_the_kelly_profile.md 1.9). -/
def rig : Profile where
  committed := true
  machine := ⟨some 8000, some (-9000), some 3000, some 3200, some 3600, some 4800, some 2400, some 192, some 96, some 200, some 400,
    some 600, some 250, some 120, some (-2000), some (-3000)⟩
  kelly := ⟨some 4, some 180, some 40, some 300, some 450000, some 40⟩
  sections := #v[⟨some 15000, some 4200, some 540, some 6200, some 12000⟩, ⟨some 15000, some 3600, some 460, some 5600, some 12500⟩,
    ⟨some 15000, some 3100, some 400, some 5000, some 13000⟩, ⟨some 15000, some 2700, some 350, some 4500, some 13500⟩,
    ⟨none, none, none, none, none⟩]
  interfaces := #v[iface 9000 4200 4000 [500, 4500, 8500], iface 12500 3800 3600 [1000, 4000, 7000, 10000, 12000],
    iface 12500 3300 3200 [1000, 4000, 7000, 10000, 12000], iface 12500 2900 2800 [1000, 4000, 7000, 10000, 12000],
    ⟨none, none, none, none, Vector.replicate 8 none⟩]
  tool := ⟨some 3500, some 450, some 1500⟩

/-- The engagement map of the case, every interface ENGAGED. -/
def lockedMap : Vector IfModel 5 :=
  #v[⟨.engaged 0, some 500⟩, ⟨.engaged 4, some 12000⟩, ⟨.engaged 4, some 12000⟩, ⟨.engaged 3, some 10000⟩, ⟨.unknown, none⟩]

/-- The 45.5 m case: OPERATING, the chain fully engaged, the envelope fresh and NORMAL, gear LOW. -/
def deep : State := { State.reset with
  profile := rig, slurry := ⟨1100, 1000⟩
  kelly := { Kelly.reset with known := true, interfaces := lockedMap, sled := some 5000, ropeDepth := some 29000, ropeBaseline := some 1000 }
  axes := { Axes.reset with gear := some .low }
  env := ⟨some ⟨41, .normal, 2500, 3500, 4300⟩, .fresh, some 300, some 2000, false, false⟩
  faults := { Faults.reset with committed := true, length := 22, descriptors := Vector.ofFn fun v => ⟨true, minClass (vectorOfNat v.val), 7⟩, pilotCut := false }
  ctl := ⟨.operating, none, .idle, false⟩, sup := Supervision.clean true }

/-- A recomputation waits. -/
def deepDue : State := { deep with mail := { deep.mail with triggers := [.envelope] } }

/-! ### The worked case at 45.5 m (06_drive_limits.md 6.10) -/

theorem test_depth : deep.toolDepth = some 45500 ∧ deep.unplaced = some 0 := by decide +kernel

theorem test_fractions_and_weights :
    (after .limitRecomputation deepDue).limits.set.fractions = #v[some 500, some 1000, some 1000, some 1000, none] ∧
    (after .limitRecomputation deepDue).limits.set.weights = #v[some 383, some 304, some 261, some 227, none] ∧
    (after .limitRecomputation deepDue).limits.set.toolWeight = some 295 ∧
    (after .limitRecomputation deepDue).limits.set.wTotal = some 1470 := by decide +kernel

theorem test_limits :
    (after .limitRecomputation deepDue).limits.set.push = 1836 ∧ (after .limitRecomputation deepDue).limits.set.binding = .buckling ∧
    (after .limitRecomputation deepDue).limits.set.pull = 3200 ∧ (after .limitRecomputation deepDue).limits.set.torque = 4300 ∧
    (after .limitRecomputation deepDue).limits.set.rotationCap = 450 := by decide +kernel

/-- The chain opened; the envelope stale (fallback 40 %); a debt of 2; a STOP (06_drive_limits.md 6.4 to 6.6; 08 8.7). -/
theorem test_limits_reduced :
    (let s : State := { deepDue with kelly := { deep.kelly with interfaces := deep.kelly.interfaces.set 2 ⟨.released, some 11000⟩ } };
      (after .limitRecomputation s).limits.set.push = 0 ∧ (after .limitRecomputation s).limits.set.binding = .chain) ∧
    (let s : State := { deepDue with env := { deep.env with freshness := .stale } };
      (after .limitRecomputation s).limits.set.push = 1200 ∧ (after .limitRecomputation s).limits.set.torque = 1920 ∧
      (after .limitRecomputation s).limits.set.binding = .fallback) ∧
    (let s : State := { deepDue with kelly := { deep.kelly with debt := 2 } }; (after .limitRecomputation s).limits.set.push = 918) ∧
    (let s : State := { deepDue with env := { deep.env with record := some ⟨41, .stop, 2500, 3500, 4300⟩ } };
      (after .limitRecomputation s).limits.set.push = 0 ∧ (after .limitRecomputation s).limits.set.torque = 0 ∧
      (after .limitRecomputation s).limits.set.pull = 3200 ∧ (after .limitRecomputation s).mail.raises = [⟨.holdInLost, some 45500, false⟩]) := by
  decide +kernel

/-! ### Helpers of the witnesses -/

/-- A request with tag 7. -/
def ask (kind object sub : Nat) (value : Int) : Request := ⟨7, kind, object, sub, value⟩

/-- A demand. -/
def dem (sub : Nat) (value : Int) : Request := ask 5 0x7F00 sub value

/-- The link holds one request. -/
def asking (l : Link) (q : Request) (s : State) : State := { s with links := s.links.modify l fun c => { c with buffer := [q] } }

/-- The transmit queue of the console link. -/
def sending (qs : List TxFrame) (s : State) : State := { s with links := s.links.modify .console fun c => { c with queue := qs } }

/-- The console link is DOWN with its idle wait at a value. -/
def down (t : Timer) (s : State) : State := { s with links := s.links.modify .console fun c => { c with up := false, idle := t } }

/-- An order at entry 0, UNIT-owned. -/
def handed (o : Order) (s : State) : State := { s with ring := s.ring.set 0 ⟨.unit, o, none⟩ }

/-- A stroke of entry 0 in flight. -/
def flying (o : Order) (x : Stroke) (s : State) : State := { handed o s with seq := ⟨.running, 0, some x⟩ }

/-- A stroke just begun, in a phase. -/
def stroke (p : Phase) : Stroke := { Stroke.fresh 0 (some 45500) false with phase := p }

/-- Orders whose required fields are present. -/
def dwellOrder : Order := { Order.blank .dwell 1 with dwell := some 1 }
def descendOrder : Order := { Order.blank .descend 1 with targetDepth := some 46000, winchSpeed := some 700 }
def hoistOrder : Order := { Order.blank .hoist 1 with targetDepth := some 40000, winchSpeed := some 300 }
def boreOrder : Order :=
  { Order.blank .bore 1 with gear := some .low, boreMode := some .locked, advance := some 500, rotarySpeed := some 100, push := some 1000 }
def hangOrder : Order :=
  { Order.blank .bore 1 with gear := some .low, boreMode := some .hanging, advance := some 500, rotarySpeed := some 100, downforce := some 200 }

/-- An order of a kind, with a plan of interface 0 at its station 0. -/
def plain (k : Kind) : Order := { Order.blank k 1 with planLength := some 1, pairs := #v[⟨some 0, some 0⟩, ⟨none, none⟩, ⟨none, none⟩, ⟨none, none⟩, ⟨none, none⟩] }

/-- The 45.5 m case with no interface engaged. -/
def freeMap : Vector IfModel 5 :=
  #v[⟨.aligned 0, some 500⟩, ⟨.aligned 4, some 12000⟩, ⟨.aligned 4, some 12000⟩, ⟨.aligned 3, some 10000⟩, ⟨.unknown, none⟩]
def hanging : State := { deep with kelly := { deep.kelly with interfaces := freeMap } }

/-- The profile of the case while the unit is in CONFIG. -/
def config : State := { State.reset with profile := { rig with committed := false } }

/-- Every axis at rest. -/
def still (s : State) : State := { s with axes := { s.axes with
  hoist := { s.axes.hoist with atRest := true }, crowd := { s.axes.crowd with atRest := true }, rotary := { s.axes.rotary with atRest := true } } }

/-- A model UNKNOWN. -/
def lost (s : State) : State := { s with kelly := { s.kelly with known := false } }

/-! ### Witnesses: steps, resets, frames and links -/

theorem witness_StepTakesFrontCommand :
    ({ State.reset with pending := [.cut, .powerOn] } : State).pending = .cut :: [.powerOn] := rfl

theorem witness_EveryCommandCompletes : State.reset.pending = [] := rfl

/-- The hoist asked for a speed and standing at 0, the rotary turning up, the rotary held by its cap, and the rotary at 0 at rest. -/
def rolling : State := { deep with axes := { deep.axes with hoist := { deep.axes.hoist with mode := .speed, request := 600 * fine, brakeApplied := false } } }
def spinning (goal at_ : Int) (load : Option Int) (rest : Bool) : State := { deep with axes := { deep.axes with
  limits := { LimitSet.unknown with torque := 4300 }
  rotary := { deep.axes.rotary with
    mode := .speed, request := goal * fine, setpoint := at_ * fine, overload := load, atRest := rest, brakeApplied := false } } }

/-- Supervision stopped and running, without and with a stroke in flight; channels settled, each with a rate, short of their goal, at it, at
their cap on the goal's side of zero and on the other, and with a brake that runs; a no-advance window whose rotation runs. -/
theorem witness_IdleStepIsOneMillisecond :
    (State.reset.pending = [] ∧ State.reset.handOffs = [] ∧ State.reset.timersDue = [] ∧
      (∀ l, (State.reset.links.get l).buffer = [] ∧ (State.reset.links.get l).queue = []) ∧ State.reset.sup.active = false) ∧
    (∀ s ∈ [deep, rolling, (spinning 200 100 none false).settle, (spinning 0 100 none false).settle, (spinning 200 100 (some 4300) false).settle,
        (spinning (-200) 1 (some 4300) false).settle, (spinning 200 (-1) (some 4300) false).settle, (spinning 0 0 none true).settle],
      s.pending = [] ∧ s.handOffs = [] ∧ s.timersDue = [] ∧ s.sup.active = true ∧ s.settle = s ∧ 0 ≤ s.rateOf .hoist ∧ 0 ≤ s.rateOf .crowd ∧
      0 ≤ s.rateOf .rotary) ∧
    (∀ l, (deep.links.get l).buffer = [] ∧ (deep.links.get l).queue = []) ∧
    (rolling.goal .hoist = 600 * fine ∧ (spinning 200 100 none false).settle.goal .rotary = 200 * fine ∧
      (spinning 200 100 (some 4300) false).settle.axes.rotary.overload = some 4300 ∧
      (spinning (-200) 1 (some 4300) false).settle.goal .rotary = -200 * fine ∧
      (spinning (-200) 1 (some 4300) false).settle.axes.rotary.setpoint = fine ∧
      (spinning (-200) 1 (some 4300) false).settle.axes.rotary.overload = some 4300 ∧
      (spinning 200 (-1) (some 4300) false).settle.axes.rotary.setpoint = -fine ∧ (spinning 0 0 none true).settle.axes.rotary.brake = some 500) ∧
    ((flying dwellOrder { stroke .wait with dwell := some 1 } deep).handOffs = [] ∧
      (flying dwellOrder { stroke .wait with dwell := some 1 } deep).timersDue = []) ∧
    (let x := stroke .advance;
      let s : State := { flying boreOrder x (spinning 100 100 none false) with
        kelly := { deep.kelly with speed := some 1 }, axes := { (spinning 100 100 none false).axes with window := some ⟨some 45500, 119999⟩ } };
      s.handOffs = [] ∧ s.timersDue = [] ∧ s.axes.rotary.atRest = false ∧ s.kelly.speed = some 1 ∧ s.axes.relief = none ∧
      holds s.axes.union .rotateCw = false ∧ s.axes.rotary.cap ≠ some 0 ∧ s.seq.stroke = some x ∧ x.inMotion = true ∧ x.phase = .advance) := by
  refine ⟨⟨rfl, by decide +kernel, by decide +kernel, fun l => by cases l <;> exact ⟨rfl, rfl⟩, rfl⟩, by decide +kernel,
    fun l => by cases l <;> exact ⟨rfl, rfl⟩, by decide +kernel, by decide +kernel, by decide +kernel⟩

/-- The line's last state released, asserted, and unsampled. -/
theorem witness_ResetLineSample :
    ({ deep with resetLine := some false } : State).resetLine = some false ∧
    ({ deep with resetLine := some true } : State).resetLine ≠ some false ∧ deep.resetLine ≠ some false := by decide +kernel

/-- Three and four requests held; seven data bytes; another identifier; a DOWN link. -/
theorem witness_RequestFrameArrives :
    (let s : State := { deep with links := deep.links.modify .console fun c => { c with buffer := List.replicate 3 (dem 1 0) } };
      (s.links.get .console).up = true ∧ (s.links.get .console).buffer.length < 4) ∧
    (let s : State := { deep with links := deep.links.modify .console fun c => { c with buffer := List.replicate 4 (dem 1 0) } };
      (s.links.get .console).up = true ∧ ¬ (s.links.get .console).buffer.length < 4) ∧
    ((deep.links.get .console).up = true ∧ (⟨0x2C0, [1, 2, 3, 4, 5, 6, 7]⟩ : Frame).data.length ≠ 8) ∧
    ((⟨0x2C1, [1, 2, 3, 4, 5, 6, 7, 8]⟩ : Frame).id ≠ 0x2C0 ∧ (⟨0x2C1, [1, 2, 3, 4, 5, 6, 7, 8]⟩ : Frame).id ≠ 0x2C4) ∧
    ((down none deep).links.get .console).up = false := by decide +kernel

/-- A fresh frame with each state byte 0, 1 and 2, after sequence number 41 and after none; the repeat of 41; state byte 3; another link that
is UP, and one that is DOWN; and the two timers due in each freshness. -/
theorem witness_EnvelopeFramesAndTimers :
    ((deep.links.get .stability).up = true ∧ [Stability.normal, .restricted, .stop][(0 : Byte).toNat]? = some .normal ∧
      [Stability.normal, .restricted, .stop][(1 : Byte).toNat]? = some .restricted ∧
      [Stability.normal, .restricted, .stop][(2 : Byte).toNat]? = some .stop ∧
      (∀ r, deep.env.record = some r → r.sequence ≠ (42 : Byte).toNat) ∧ deep.env.stopLatch = false ∧ deep.ctl.mode ≠ .config) ∧
    (∀ r, State.reset.env.record = some r → r.sequence ≠ (0 : Byte).toNat) ∧
    (∃ r, deep.env.record = some r ∧ r.sequence = (41 : Byte).toNat) ∧ 2 < (3 : Byte).toNat ∧
    ((deep.links.get .console).up = true ∧ ((down (some 1) deep).links.get .console).up = false) ∧
    (let s : State := { deep with env := { deep.env with freshTimer := some 0 } };
      s.env.freshTimer = some 0 ∧ s.env.freshness = .fresh) ∧
    (let s : State := { deep with env := { deep.env with freshTimer := some 0, freshness := .stale } };
      s.env.freshTimer = some 0 ∧ s.env.freshness ≠ .fresh) ∧
    deep.env.freshTimer ≠ some 0 ∧ deep.env.lossTimer ≠ some 0 ∧
    (let s : State := { deep with env := { deep.env with lossTimer := some 0, freshness := .stale } };
      s.env.lossTimer = some 0 ∧ s.env.freshness ≠ .fresh ∧ s.ctl.mode = .operating ∧ s.env.lossLatch = false) ∧
    (let s : State := { State.reset with env := { State.reset.env with lossTimer := some 0 } };
      s.env.lossTimer = some 0 ∧ s.env.freshness ≠ .fresh ∧ s.ctl.mode = .config) := by
  refine ⟨⟨rfl, rfl, rfl, rfl, ?_, rfl, by decide +kernel⟩, nofun, ⟨_, rfl, rfl⟩, by decide +kernel, by decide +kernel, by decide +kernel, by decide +kernel, by decide +kernel,
    by decide +kernel, by decide +kernel, by decide +kernel⟩
  rintro r ⟨⟩
  decide

/-- A response at the two ends of the 24-bit range, the response of a UNIT_RESET, and a notice. -/
theorem witness_QueuedFrameSent :
    (let r : Response := ⟨7, .ok, 0x1000, 1, 8388607, false⟩;
      ((sending [.response r] deep).links.get .console).up = true ∧ ((sending [.response r] deep).links.get .console).queue = .response r :: [] ∧
      -8388608 ≤ r.value ∧ r.value ≤ 8388607 ∧ r.resets = false) ∧
    (let r : Response := ⟨7, .ok, 0x1000, 1, -8388608, false⟩;
      ((sending [.response r] deep).links.get .console).queue = .response r :: [] ∧ -8388608 ≤ r.value ∧ r.value ≤ 8388607) ∧
    (let r : Response := ⟨7, .ok, 0x7F00, 0x12, 0, true⟩;
      ((sending [.response r] deep).links.get .console).queue = .response r :: [] ∧ r.resets = true) ∧
    ((sending [.notice] deep).links.get .console).queue = .notice :: [] := by decide +kernel

/-- An UP link with an empty queue and with the response of a UNIT_RESET waiting; a DOWN link waiting, and due to return. -/
theorem witness_BusOffAndReturn :
    ((deep.links.get .console).up = true ∧ ∀ r, TxFrame.response r ∈ (deep.links.get .console).queue → r.resets = false) ∧
    (let r : Response := ⟨7, .ok, 0x7F00, 0x12, 0, true⟩;
      ((sending [.response r] deep).links.get .console).up = true ∧
      TxFrame.response r ∈ ((sending [.response r] deep).links.get .console).queue ∧ r.resets = true) ∧
    ((down (some 250) deep).links.get .console).up = false ∧
    (((down (some 0) deep).links.get .console).up = false ∧ ((down (some 0) deep).links.get .console).idle = some 0 ∧
      ((down (some 0) deep).links.get .console).queue = []) := by
  exact ⟨⟨rfl, nofun⟩, by decide +kernel, by decide +kernel, by decide +kernel⟩

/-! ### Witnesses: requests -/



/-- A present and an absent field; the first kind without a name; an object and a sub-index outside the map; a READ of the demand object; a
DEMAND at another object, at no demand and of another link's; a field outside the link's rights. -/
theorem witness_ReadsAndRefusals :
    (let q := ask 0 0x1000 3 0;
      (asking .console q deep).waits .console q [] ∧ q.kind = 0 ∧ q.field = some (.machine 2) ∧
      (asking .console q deep).read (.machine 2) = some 3000) ∧
    (let q := ask 0 0x1000 3 0;
      (asking .console q State.reset).waits .console q [] ∧ (asking .console q State.reset).read (.machine 2) = none) ∧
    ((asking .console (ask 6 0x1000 1 0) deep).waits .console (ask 6 0x1000 1 0) [] ∧ 5 < (ask 6 0x1000 1 0).kind) ∧
    ((ask 5 0x1001 1 0).kind ≤ 5 ∧ objectFields (ask 5 0x1001 1 0).object = none) ∧
    ((ask 4 0x7F00 1 0).kind < 5 ∧ (ask 4 0x7F00 1 0).object = 0x7F00) ∧
    ((ask 5 0x1000 1 0).kind = 5 ∧ (ask 5 0x1000 1 0).object ≠ 0x7F00 ∧ (objectFields (ask 5 0x1000 1 0).object).isSome = true) ∧
    ((dem 0 0).kind = 5 ∧ (dem 0 0).object = 0x7F00 ∧ demandAt (dem 0 0).sub = none) ∧
    (∃ d, demandAt (dem 1 0).sub = some d ∧ d.link ≠ .recorder) ∧
    ((ask 4 0x1000 17 0).kind < 5 ∧ (ask 4 0x1000 17 0).object ≠ 0x7F00 ∧ (objectFields (ask 4 0x1000 17 0).object).isSome = true ∧
      (ask 4 0x1000 17 0).field = none) ∧
    ((ask 1 0x1000 16 0).kind < 5 ∧ (ask 1 0x1000 16 0).field = some (.machine 15) ∧ Field.allows (.machine 15) .console 1 = false) := by
  refine ⟨⟨⟨rfl, rfl⟩, rfl, by decide +kernel, by decide +kernel⟩, ⟨⟨rfl, rfl⟩, by decide +kernel⟩, ⟨⟨rfl, rfl⟩, by decide +kernel⟩, by decide +kernel, by decide +kernel, by decide +kernel, by decide +kernel, ⟨_, rfl, by decide +kernel⟩, by decide +kernel, by decide +kernel⟩

/-- The first and the last write kind. -/
theorem witness_RightsOfLinks : ∀ kind ∈ [1, 2, 3, 4], 1 ≤ kind ∧ kind ≤ 4 := by decide

/-- CONFIG with the profile UNCOMMITTED, values at both ends and beyond; COMMITTED; station counts 1, 8, 0 and 9; a station at and below
the count. -/
theorem witness_ProfileWritten :
    (∀ v ∈ ([1000, 15000, 999, 15001] : List Int),
      (asking .recorder (ask 1 0x1000 1 v) config).waits .recorder (ask 1 0x1000 1 v) []) ∧
    ((ask 1 0x1000 1 1000).field = some (.machine 0) ∧ profileRange (.machine 0) = some (1000, 15000) ∧ config.ctl.mode = .config ∧
      config.profile.committed = false ∧ deep.profile.committed = true) ∧
    (∀ v ∈ ([1, 8, 0, 9] : List Int), (asking .recorder (ask 1 0x1200 4 v) config).waits .recorder (ask 1 0x1200 4 v) [] ∧
      (ask 1 0x1200 4 v).field = some (.stationCount 0)) ∧
    ((ask 1 0x1200 0x12 0).field = some (.station 0 2) ∧ config.profile.value (.stationCount 0) = some 3 ∧ ((2 : Fin 8).val : Int) < 3 ∧
      (ask 1 0x1200 0x13 20000).field = some (.station 0 3) ∧ (3 : Int) ≤ ((3 : Fin 8).val : Int)) := by
  refine ⟨?_, by decide +kernel, ?_, by decide +kernel⟩
  · intro v _; exact ⟨rfl, rfl⟩
  · intro v hv; exact ⟨⟨rfl, rfl⟩, by revert v; decide +kernel⟩

/-- Both slurry fields; the four fields of a mark, the depth at the ends of its range. -/
theorem witness_SlurryAndMarksWritten :
    (∀ v : Int, (asking .recorder (ask 1 0x1400 1 v) deep).waits .recorder (ask 1 0x1400 1 v) [] ∧ (ask 1 0x1400 1 v).names 1 0x1400 1) ∧
    (asking .recorder (ask 1 0x1400 2 30000) deep).waits .recorder (ask 1 0x1400 2 30000) [] ∧
    ((asking .recorder (ask 1 0x6000 1 150000) deep).waits .recorder (ask 1 0x6000 1 150000) [] ∧
      (ask 1 0x6000 1 150000).field = some (.mark 0 .depth) ∧ (ask 1 0x6000 1 (-25001)).field = some (.mark 0 .depth)) ∧
    ((ask 1 0x6007 2 1).field = some (.mark 7 .direction) ∧ (ask 1 0x6007 3 2).field = some (.mark 7 .action) ∧
      (ask 1 0x6007 4 0).field = some (.mark 7 .disarm)) := by
  refine ⟨fun v => ⟨⟨rfl, rfl⟩, rfl, rfl, rfl⟩, ⟨rfl, rfl⟩, ⟨⟨rfl, rfl⟩, by decide +kernel, by decide +kernel⟩, by decide +kernel⟩

/-- A dwell time written to a DWELL at both ends and beyond, to a UNIT-owned entry, and to an entry of another kind. -/
theorem witness_OrderFieldWritten :
    (∀ v ∈ ([1, 6000, 0, 6001] : List Int),
      let s : State := { deep with ring := deep.ring.set 0 ⟨.console, dwellOrder, none⟩ };
      (asking .console (ask 1 0x2100 0x1C v) s).waits .console (ask 1 0x2100 0x1C v) [] ∧
      (ask 1 0x2100 0x1C v).field = some (.order 0 .dwell) ∧ s.ring[(0 : Fin 32)].owner = .console ∧
      s.ring[(0 : Fin 32)].order.uses .dwell = true) ∧
    OrderField.isPlain .dwell = true ∧ orderRange .dwell = (1, 6000) ∧ (handed dwellOrder deep).ring[(0 : Fin 32)].owner = .unit ∧
    (deep.ring[(0 : Fin 32)].owner = .console ∧ deep.ring[(0 : Fin 32)].order.uses .dwell = false) := by
  refine ⟨?_, by decide +kernel, by decide +kernel, by decide +kernel, by decide +kernel⟩
  intro v hv; exact ⟨⟨rfl, rfl⟩, by revert v; decide +kernel, by decide +kernel, by decide +kernel⟩

/-- Kinds 0 and 10, −1 and 11, on a CONSOLE-owned entry and a UNIT-owned one; a bore mode on a BORE, elsewhere, out of its range and UNIT-owned;
a plan of an ENGAGE that lists nothing twice, on another kind, UNIT-owned, and each of its fields just outside its range. -/
theorem witness_KindAndPlanWritten :
    (∀ v ∈ ([0, 10, -1, 11] : List Int), (asking .console (ask 1 0x211F 1 v) deep).waits .console (ask 1 0x211F 1 v) [] ∧
      (ask 1 0x211F 1 v).field = some (.order 31 .kind)) ∧
    (codeIn kindList .none = 0 ∧ codeIn kindList .park = 10 ∧ deep.ring[(31 : Fin 32)].owner = .console ∧
      (handed boreOrder deep).ring[(0 : Fin 32)].owner = .unit) ∧
    (let s : State := { deep with ring := deep.ring.set 0 ⟨.console, boreOrder, none⟩ };
      s.ring[(0 : Fin 32)].owner = .console ∧ s.ring[(0 : Fin 32)].order.kind = .bore ∧
      (ask 1 0x2100 0x15 1).field = some (.order 0 .boreMode) ∧ (1 : Int) = codeIn boreModeList .hanging ∧
      deep.ring[(0 : Fin 32)].order.kind ≠ .bore ∧
      (∀ v ∈ ([-1, 2] : List Int), (ask 1 0x2100 0x15 v).field = some (.order 0 .boreMode) ∧ (v < 0 ∨ 1 < v))) ∧
    (deep.ring[(0 : Fin 32)].order.kind ≠ .engage ∧ (handed (plain .engage) deep).ring[(0 : Fin 32)].owner = .unit ∧
      (∀ v ∈ ([0, 6] : List Int), (ask 1 0x2100 0x20 v).field = some (.order 0 .planLength) ∧ (v < 1 ∨ 5 < v)) ∧
      (∀ v ∈ ([-1, 5] : List Int), (ask 1 0x2100 0x21 v).field = some (.order 0 (.pairIface 0)) ∧ (v < 0 ∨ 4 < v)) ∧
      ∀ v ∈ ([-1, 8] : List Int), (ask 1 0x2100 0x2A v).field = some (.order 0 (.pairStation 4)) ∧ (v < 0 ∨ 7 < v)) ∧
    (let o : Order := { Order.blank .engage 1 with planLength := some 2, pairs := #v[⟨some 0, some 0⟩, ⟨some 1, none⟩, ⟨none, none⟩, ⟨none, none⟩, ⟨none, none⟩] };
      o.PlanDistinct ∧ (ask 1 0x2100 0x20 5).field = some (.order 0 .planLength) ∧ (ask 1 0x2100 0x29 0).field = some (.order 0 (.pairIface 4)) ∧
      (ask 1 0x2100 0x22 7).field = some (.order 0 (.pairStation 0)) ∧ ¬ ({ o with pairs := o.pairs.set 1 ⟨some 0, none⟩ } : Order).PlanDistinct) := by
  refine ⟨?_, by decide +kernel, by decide +kernel, by decide +kernel, ?_, by decide +kernel, by decide +kernel, by decide +kernel, ?_⟩
  · intro v hv; exact ⟨⟨rfl, rfl⟩, by revert v; decide +kernel⟩
  · rintro n ⟨⟩; decide +kernel
  · intro h; exact absurd (h 2 rfl) (by decide +kernel)

/-- The table UNCOMMITTED and COMMITTED; a class at its ends and beyond; the length at its ends; a present flag; a notify set. -/
theorem witness_ReactionTableWritten :
    ((asking .stability (ask 1 0x5000 1 1) State.reset).waits .stability (ask 1 0x5000 1 1) [] ∧
      (ask 1 0x5000 1 22).field = some .tableLength ∧ State.reset.faults.committed = false ∧ deep.faults.committed = true) ∧
    (∃ (q : Request) (v : Fin 22), q.kind = 1 ∧ q.object = 0x5000 ∧ q.field = some (.cls v) ∧ q.value = codeIn classList .announce) ∧
    (∃ (q : Request) (v : Fin 22), q.kind = 1 ∧ q.object = 0x5000 ∧ q.field = some (.cls v) ∧ 3 < q.value) ∧
    (∃ (q : Request) (v : Fin 22), q.kind = 1 ∧ q.object = 0x5000 ∧ q.field = some (.present v) ∧ q.value = 1) ∧
    (∃ (q : Request) (v : Fin 22), q.kind = 1 ∧ q.object = 0x5000 ∧ q.field = some (.notify v) ∧ q.value = 7) := by
  refine ⟨⟨⟨rfl, rfl⟩, by decide +kernel⟩, ⟨ask 1 0x5000 0x31 0, 1, rfl, rfl, by decide +kernel, by decide +kernel⟩,
    ⟨ask 1 0x5000 0x31 4, 1, rfl, rfl, by decide +kernel, by decide +kernel⟩, ⟨ask 1 0x5000 0x11 1, 1, rfl, rfl, by decide +kernel, by decide +kernel⟩,
    ⟨ask 1 0x5000 0x51 7, 1, rfl, rfl, by decide +kernel, by decide +kernel⟩⟩

/-- Each kind on the console's own mask, at both ends of the value and beyond. -/
theorem witness_InhibitMaskRequests : ∀ k ∈ [1, 2, 3, 4], ∀ v ∈ ([0, 65535, -1, 65536] : List Int),
    (asking .console (ask k 0x4100 1 v) deep).waits .console (ask k 0x4100 1 v) [] ∧ (ask k 0x4100 1 v).object = 0x4100 ∧
    (ask k 0x4100 1 v).sub = ownSub .console := by
  intro k _ v _; exact ⟨⟨rfl, rfl⟩, rfl, rfl⟩

/-- Each kind on the stability link's own flags and enables, at both ends of the value and beyond. -/
theorem witness_NoticeFlagsAndNotices : ∀ k ∈ [1, 2, 3, 4], ∀ v ∈ ([0, 4095, -1, 4096] : List Int),
    (asking .stability (ask k 0x7000 2 v) deep).waits .stability (ask k 0x7000 2 v) [] ∧ (ask k 0x7000 2 v).sub = ownSub .stability ∧
    (asking .stability (ask k 0x7000 0x12 v) deep).waits .stability (ask k 0x7000 0x12 v) [] ∧
    (ask k 0x7000 0x12 v).sub = 0x10 + ownSub .stability := by
  intro k _ v _; exact ⟨⟨rfl, rfl⟩, rfl, ⟨rfl, rfl⟩, rfl⟩

/-! ### Witnesses: demands -/

/-- Every start check of an entry passes. -/
theorem passes {o : Order} {s : State} (h : (permits s.ctl.mode o.kind && !s.startInhibited o && (s.ownReason o).isNone) = true) : s.Passes o := by
  simp only [Bool.and_eq_true, Bool.not_eq_true', Option.isNone_iff_eq_none] at h
  exact (s.passes_iff o).2 ⟨h.1.1, h.1.2, h.2⟩

/-- The two parks. -/
def stowOrder : Order := { plain .park with parkKind := some .stow }
def latchOrder : Order := { plain .park with parkKind := some .latch }

/-- The kelly on the bottom. -/
def grounded (s : State) : State := { s with kelly := { s.kelly with tob := true } }

/-- A limit set with a W_total and a hoist line limit. -/
def loaded (total line : Int) (s : State) : State :=
  { s with limits := { s.limits with set := { LimitSet.unknown with wTotal := some total, hoistLine := line, push := 1836 } } }

/-- START in STOPPED and RESUME in HELD: at a CONSOLE-owned entry; refused by the mode; by a direction and by a shift that is barred; by each
row of the own checks; and both demands refused in SUSPENDED. -/
theorem witness_StartAndResume :
    (∀ sub ∈ [1, 3], (asking .console (dem sub 0) deep).demands .console sub (dem sub 0) []) ∧
    (deep.seq.state = .stopped ∧ deep.ctl.mode = .operating ∧ deep.faults.state = .clear ∧ deep.ring[deep.seq.next].owner = .console) ∧
    (let s : State := { handed descendOrder (lost deep) with ctl := ⟨.surveyRequired, none, .idle, false⟩, seq := ⟨.held, 0, none⟩ };
      s.seq.state = .held ∧ s.ctl.mode = .surveyRequired ∧ s.faults.state = .clear ∧ s.ring[s.seq.next].owner = .unit ∧
      ¬ Permitted s.ctl.mode s.ring[s.seq.next].order.kind ∧ s.ctl.latchRequest = false) ∧
    (Permitted deep.ctl.mode .bore ∧ ({ deep with masks := ⟨8192, 0, 0⟩ } : State).Barred descendOrder ∧
      ({ deep with masks := ⟨0, 4096, 0⟩, axes := { deep.axes with gear := none } } : State).Barred boreOrder ∧ ¬ deep.Barred boreOrder) ∧
    (∀ p ∈ ([(descendOrder, lost deep, .modelUnknown), (descendOrder, deep, .chain), (hoistOrder, loaded 1470 1469 hanging, .overweight),
        (plain .sled, State.reset, .modelUnknown), (plain .sled, deep, .chain), (plain .engage, hanging, .notOnBottom),
        (plain .engage, grounded deep, .notAligned), (plain .engage, grounded hanging, .planMismatch), (plain .release, deep, .notOnBottom),
        (plain .release, grounded hanging, .chain), (boreOrder, hanging, .chain), (hangOrder, deep, .chain), (plain .spin, hanging, .clearance),
        (plain .survey, deep, .notOnBottom), (latchOrder, hanging, .chain), (latchOrder, deep, .notOnBottom), (stowOrder, deep, .chain),
        (stowOrder, hanging, .park)] : List (Order × State × Reason)), FirstHolds (p.2.1.ownChecks p.1) p.2.2) ∧
    (let s : State := { deep with seq := ⟨.suspended, 0, none⟩ };
      s.seq.state ≠ .stopped ∧ ¬ (s.seq.state = .held ∨ s.seq.state = .faulted)) := by
  refine ⟨fun sub _ => ⟨⟨rfl, rfl⟩, rfl, rfl, rfl⟩, by decide +kernel, ⟨rfl, rfl, rfl, by decide +kernel, ?_, rfl⟩, ⟨.inl rfl, ?_, ?_, ?_⟩, ?_,
    by decide +kernel⟩
  · rintro (h | ⟨_, h⟩) <;> revert h <;> decide +kernel
  · exact .inl ⟨.descend, rfl, by decide +kernel⟩
  · exact .inr ⟨.inl rfl, by decide +kernel, .inl rfl⟩
  · rw [← State.startInhibited_iff]; decide +kernel
  · intro p hp
    rw [← State.ownReason_some_iff]
    revert p
    decide +kernel

/-- The case with every interface between its stations, hanging free; and a kelly nested above the guide. -/
def swingMap (x : Int) : Vector IfModel 5 :=
  #v[⟨.released, some x⟩, ⟨.released, some 2000⟩, ⟨.released, some 2000⟩, ⟨.released, some 2000⟩, ⟨.unknown, none⟩]
def swinging : State := loaded 1470 2000 { deep with kelly := { deep.kelly with interfaces := swingMap 2000 } }
def perched : State := { deep with
  profile := { rig with machine := { rig.machine with zTop := some (-30000) } }
  kelly := { deep.kelly with interfaces := Vector.replicate 5 ⟨.released, some 0⟩ }, axes := { deep.axes with topState := some true } }
def spinOrder : Order := { plain .spin with gear := some .low, rotarySpeed := some 300, cycles := some 2 }

/-- The crowd in FORCE at a setpoint within its bounds; the hoist in SPEED. -/
def crowding (v : Int) (s : State) : State := { s with axes := { s.axes with
  limits := { s.axes.limits with push := 1836, hoistLine := 3600 }, crowd := { s.axes.crowd with mode := .force, setpoint := v } } }
def hoisting (s : State) : State := { s with axes := { s.axes with hoist := { s.axes.hoist with mode := .speed } } }

/-- Each kind of stroke begun, every check of it passed: a DWELL of one tenth; a DESCEND one millimetre short of its target; a HOIST; a SLED
6 mm from its target and one clamped; an ENGAGE with its settle wait and without; a RELEASE with the crowd at its bound and braked; a LOCKED
and a HANGING BORE in gear and out of it, the advance at its allowance; a SPIN in gear and out of it; both PARKs; a BORE whose rotary turns at its
speed already. -/
theorem witness_StrokeBegins :
    (asking .console (dem 1 0) deep).demands .console 1 (dem 1 0) [] ∧
    (∀ o ∈ [dwellOrder, descendOrder, hoistOrder, plain .sled, plain .engage, plain .release, boreOrder, hangOrder, spinOrder, stowOrder, latchOrder],
      let s := handed o deep;
      s.seq.state = .stopped ∧ s.faults.state = .clear ∧ s.ring[s.seq.next].owner = .unit ∧ s.ring[s.seq.next].order = o ∧
      s.kelly.rotation = none ∧ s.ctl.reseat = .idle ∧ s.axes.relief = none ∧ s.axes.governor = .free) ∧
    (deep.Passes dwellOrder ∧ dwellOrder.dwell = some ((1 : Nat) : Int)) ∧
    (hanging.Passes { descendOrder with targetDepth := some 45501 } ∧ hanging.toolDepth = some 45500 ∧ hanging.kelly.tob = false) ∧
    (hanging.Passes hoistOrder ∧ hanging.axes.topState ≠ some true ∧ fig hoistOrder.targetDepth < 45500) ∧
    (∀ p ∈ ([(5006, 5006), (9000, 5500), (-1, 0)] : List (Int × Int)),
      let target := max hanging.sledLow (min hanging.sledHigh (fig (some p.1)));
      target = p.2 ∧ 5 < magnitude (target - fig hanging.kelly.sled)) ∧
    (hanging.Passes { plain .sled with sledTarget := some 5006, sledSpeed := some 200 } ∧ hanging.kelly.sled ≠ none) ∧
    (let s : State := { hanging with kelly := { hanging.kelly with releaseSettle := some 1 } };
      Permitted s.ctl.mode .engage ∧ ¬ s.Barred (plain .engage) ∧ s.kelly.releaseSettle ≠ none) ∧
    (let s := grounded { deep with kelly := { deep.kelly with interfaces := (swingMap 500).set 0 ⟨.aligned 0, some 500⟩ } };
      s.Passes (plain .engage) ∧ s.kelly.releaseSettle = none ∧ (plain .engage).plan = some [(0, 0)] ∧
      holds s.axes.union .hoistUp = false ∧ holds s.axes.union .hoistDown = false ∧ 50 ≤ (crowding 0 s).axes.limits.hoistLine) ∧
    ((grounded deep).Passes (plain .release) ∧ deep.axes.crowd.mode = .braked ∧
      (let s := crowding (1836 * fine) (grounded deep);
        s.axes.crowd.mode = .force ∧ s.axes.crowd.setpoint ≠ 0 ∧ (s.bounds .crowd).1 ≤ s.axes.crowd.setpoint ∧
        s.axes.crowd.setpoint ≤ (s.bounds .crowd).2)) ∧
    (deep.Passes boreOrder ∧ boreOrder.boreMode = some .locked ∧ (3000 : Int) = fig deep.profile.machine.sledTravel - fig deep.kelly.sled ∧
      min (fig boreOrder.advance) 3000 ≠ 0 ∧ deep.axes.gear = some .low ∧ State.reset.axes.gear = none) ∧
    (swinging.Passes hangOrder ∧ swinging.AllowanceIs 2360 ∧ hangOrder.downforce = some 200 ∧ swinging.limits.set.wTotal = some 1470 ∧
      min (fig (some 2360)) (2360 : Int) ≠ 0 ∧ ¬ (2360 : Int) < fig (some 2360) ∧ (2360 : Int) < fig (some 2361)) ∧
    (perched.Passes spinOrder ∧ perched.axes.gear = spinOrder.gear ∧
      (let s : State := { perched with axes := { perched.axes with gear := none } }; s.Passes spinOrder ∧ s.axes.gear = none)) ∧
    (perched.Passes stowOrder ∧ (grounded deep).Passes latchOrder ∧ (hoisting deep).axes.hoist.mode ≠ .braked) ∧
    (let s := (spinning 0 100 none false).settle;
      s.Passes boreOrder ∧ s.axes.rotary.mode = .speed ∧ s.settle = s ∧ s.axes.rotary.setpoint = 100 * fine ∧
      min (fig boreOrder.rotarySpeed) (s.profile.rotaryMax .low) = 100 ∧ s.axes.gear = some .low) := by
  refine ⟨⟨⟨rfl, rfl⟩, rfl, rfl, rfl⟩, by decide +kernel, ⟨passes (by decide +kernel), rfl⟩, ⟨passes (by decide +kernel), by decide +kernel, rfl⟩,
    ⟨passes (by decide +kernel), by decide +kernel, by decide +kernel⟩, by decide +kernel, ⟨passes (by decide +kernel), by decide +kernel⟩,
    ⟨.inl rfl, ?_, by decide +kernel⟩, ⟨passes (by decide +kernel), by decide +kernel⟩, ⟨passes (by decide +kernel), by decide +kernel⟩,
    ⟨passes (by decide +kernel), by decide +kernel⟩, ⟨passes (by decide +kernel), .inl ⟨0, 4460, by decide +kernel, ?_, ?_, by decide +kernel⟩, by decide +kernel⟩,
    ⟨passes (by decide +kernel), rfl, passes (by decide +kernel), rfl⟩, ⟨passes (by decide +kernel), passes (by decide +kernel), by decide +kernel⟩,
    passes (by decide +kernel), by decide +kernel⟩
  · rw [← State.startInhibited_iff]; decide +kernel
  · rw [State.windowAhead_iff]; exact ⟨(1, 4500), by decide +kernel, by decide +kernel, by decide +kernel⟩
  · intro i _ h; exact absurd h (Nat.not_lt_zero _)

/-- PAUSE and FLUSH in every state of the sequencer, with and without a UNIT-owned entry. -/
theorem witness_PauseAndFlush :
    (∀ st ∈ [SeqState.suspended, .held, .stopped, .faulted], ∀ sub ∈ [2, 5],
      let s : State := { handed dwellOrder deep with seq := ⟨st, 0, none⟩ };
      (asking .console (dem sub 0) s).demands .console sub (dem sub 0) [] ∧ s.seq.state = st) ∧
    (flying dwellOrder (stroke .wait) deep).seq.state = .running ∧
    (flying dwellOrder (stroke .wait) deep).seq.stroke = some (stroke .wait) ∧
    (∃ k : Fin 32, (handed dwellOrder deep).ring[k].owner = .unit) ∧ (∀ k : Fin 32, deep.ring[k].owner = .console) := by
  refine ⟨fun st _ sub _ => ⟨⟨⟨rfl, rfl⟩, rfl, rfl, rfl⟩, rfl⟩, by decide +kernel, by decide +kernel, by decide +kernel, by decide +kernel⟩

/-- A seating rotation, from the angle 0. -/
def seating : Rotation := ⟨.seating, .turning, some 0, 225, false, false⟩

/-- ABORT in STOPPED, in HELD, with a DWELL in flight, with a seating rotation turning, with an unseating rotation turning and a creep
back of either sense, and after a confirmation. -/
theorem witness_AbortDemand :
    (asking .console (dem 4 0) deep).demands .console 4 (dem 4 0) [] ∧ deep.seq.state = .stopped ∧
    (let s : State := { deep with seq := ⟨.held, 0, none⟩ }; s.seq.state ≠ .stopped ∧ s.seq.state ≠ .running) ∧
    (let s := flying dwellOrder (stroke .wait) deep;
      s.seq.state = .running ∧ s.seq.stroke = some (stroke .wait) ∧ s.kelly.rotation = none ∧ s.ctl.reseat = .idle ∧
      s.axes.governor = .free ∧ s.ctl.latchRequest = false) ∧
    (let s : State := { flying (Order.blank .engage 1) (stroke .seating) deep with kelly := { deep.kelly with rotation := some seating } };
      s.seq.state = .running ∧ s.seq.stroke = some (stroke .seating) ∧ s.kelly.rotation = some seating ∧ seating.sense = .seating ∧
      seating.stage = .turning ∧ seating.interrupted = false ∧ s.ctl.reseat = .idle ∧ s.axes.relief = none) ∧
    (∀ r ∈ [{ seating with sense := .unseating }, { seating with stage := .back }, { seating with sense := .unseating, stage := .back }],
      let s : State := { flying (plain .release) (stroke .unseating) deep with kelly := { deep.kelly with rotation := some r } };
      s.seq.state = .running ∧ s.seq.stroke = some (stroke .unseating) ∧ s.kelly.rotation = some r ∧
      (r.sense = .unseating ∧ r.stage = .turning ∨ r.stage = .back) ∧ r.interrupted = false ∧ s.ctl.reseat = .idle ∧ s.axes.relief = none) ∧
    (let r : Rotation := { seating with stage := .resting };
      let s : State := { flying (Order.blank .engage 1) (stroke .seating) deep with kelly := { deep.kelly with rotation := some r } };
      s.kelly.rotation = some r ∧ r.stage = .resting ∧ r.interrupted = false ∧ s.axes.governor = .free) := by
  refine ⟨⟨⟨rfl, rfl⟩, rfl, rfl, rfl⟩, by decide +kernel, by decide +kernel, by decide +kernel, by decide +kernel, by decide +kernel,
    by decide +kernel⟩

/-- HANDOVER of index −1, 0, 31 and 32; of a UNIT-owned entry, one of kind NONE, one with a required field absent, a complete one, and a
complete DWELL that a SUSPENDED sequencer waits for. -/
theorem witness_HandoverDemand :
    (∀ v ∈ ([-1, 0, 31, 32] : List Int), (asking .console (dem 6 v) deep).demands .console 6 (dem 6 v) []) ∧
    (handed dwellOrder deep).ring[(0 : Fin 32)].owner = .unit ∧
    (deep.ring[(0 : Fin 32)].owner = .console ∧ deep.ring[(0 : Fin 32)].order.kind = .none) ∧
    (let x : Entry := ⟨.console, { descendOrder with winchSpeed := none }, none⟩;
      x.owner = .console ∧ (0x12, OrderField.winchSpeed) ∈ x.order.required ∧ x.order.value .winchSpeed = none ∧
      ∀ p ∈ x.order.required, x.order.value p.2 = none → 0x12 ≤ p.1) ∧
    (let s : State := { deep with ring := deep.ring.set 31 ⟨.console, dwellOrder, none⟩, seq := ⟨.suspended, 31, none⟩ };
      let x := s.ring[(31 : Fin 32)];
      x.owner = .console ∧ x.order.kind ≠ .none ∧ (∀ p ∈ x.order.required, x.order.value p.2 ≠ none) ∧ deep.seq.state ≠ .suspended ∧
      s.seq.state = .suspended ∧ s.seq.next = 31 ∧ x.order.kind = .dwell ∧ s.ctl.mode = .operating ∧ s.kelly.rotation = none ∧
      s.ctl.reseat = .idle ∧ s.axes.relief = none) := by
  refine ⟨fun v _ => ⟨⟨rfl, rfl⟩, rfl, rfl, rfl⟩, by decide +kernel, by decide +kernel, by decide +kernel, by decide +kernel⟩

/-- A LATCH park and a STOW park; outside PARKED; the torque limit 0.0; a torque just below and at the confirm torque. -/
def latched (torque : Int) : State := { deep with
  ctl := ⟨.parked, some ⟨.latch, ⟨some 1000, some 5000, some 0⟩⟩, .idle, true⟩
  limits := { deep.limits with set := { deep.limits.set with torque := 4300 } }
  kelly := { deep.kelly with torque := some torque } }

theorem witness_UnparkDemand :
    (asking .console (dem 7 0) (latched 0)).demands .console 7 (dem 7 0) [] ∧ deep.ctl.mode ≠ .parked ∧
    ({ latched 0 with limits := deep.limits } : State).limits.set.torque = 0 ∧
    (let s : State := { latched 0 with ctl := ⟨.parked, some ⟨.stow, ⟨some 1000, some 5000, some 0⟩⟩, .idle, false⟩ };
      s.ctl.mode = .parked ∧ s.faults.state = .clear ∧ s.ctl.reseat = .idle ∧ s.ctl.park = some ⟨.stow, ⟨some 1000, some 5000, some 0⟩⟩ ∧
      s.ctl.latchRequest = false ∧ (latched 0).ctl.latchRequest = true) ∧
    (∀ q ∈ ([-224, 224, 225] : List Int), (latched q).ctl.mode = .parked ∧ (latched q).faults.state = .clear ∧
      (latched q).ctl.reseat = .idle ∧ (latched q).ctl.park = some ⟨.latch, ⟨some 1000, some 5000, some 0⟩⟩ ∧
      (latched q).limits.set.torque ≠ 0 ∧ (latched q).kelly.torque = some q) ∧
    magnitude (-224) < rig.confirmTorque ∧ rig.confirmTorque ≤ magnitude 225 := by
  refine ⟨⟨⟨rfl, rfl⟩, rfl, rfl, rfl⟩, by decide +kernel, by decide +kernel, by decide +kernel, by decide +kernel, by decide +kernel, by decide +kernel⟩

/-- A reaction context whose service is vector 0. -/
def context : Context where
  serviceVector := .ropeEncoder
  serviceClass := .halt
  firstVector := .ropeEncoder
  firstRaised := .ropeEncoder
  firstClass := .halt
  secondVector := none
  secondRaised := none
  thirdVector := none
  laterCount := 0
  lastLater := none
  ringIndex := none
  phase := none
  depth := some 45500
  crowdForce := none
  torque := none
  tension := none

/-- The controller in a state with that context. -/
def serving (st : ControllerState) (s : State) : State := { s with faults := { s.faults with state := st, context := some context } }

theorem witness_StabilityLinkDemands :
    (∀ sub ∈ [0x10, 0x11, 0x12, 0x13], (asking .stability (dem sub 0) deep).demands .stability sub (dem sub 0) []) ∧
    (deep.faults.committed = true ∧ State.reset.faults.length = 0) ∧
    (let s : State := { State.reset with faults := { Faults.reset with length := 1 } };
      s.faults.committed = false ∧ s.faults.length ≠ 0 ∧ s.profile.committed = false) ∧
    (let s : State := { State.reset with profile := rig, faults := { Faults.reset with length := 1 } };
      s.faults.committed = false ∧ s.faults.length ≠ 0 ∧ s.ctl.mode = .config ∧ s.profile.committed = true ∧ s.kelly.known = false) ∧
    (deep.ctl.mode ≠ .lockout ∧ ({ deep with ctl := ⟨.lockout, none, .idle, false⟩ } : State).ctl.mode = .lockout) ∧
    (deep.faults.state ≠ .cut ∧ (serving .cut deep).axes.hoist.atRest = false) ∧
    ((serving .cut (still deep)).faults.context = some context ∧ (serving .cut (still deep)).faults.state = .cut ∧
      ∀ x, ((serving .cut (still deep)).axes.get x).atRest = true) := by
  refine ⟨fun sub _ => ⟨⟨rfl, rfl⟩, rfl, rfl, rfl⟩, by decide +kernel, by decide +kernel, by decide +kernel, by decide +kernel, by decide +kernel,
    rfl, rfl, fun x => by cases x <;> rfl⟩

/-- A present value within [0, hi]. -/
theorem within_of_any {o : Option Int} {hi : Int} (h : (o.any fun x => decide (0 ≤ x ∧ x ≤ hi)) = true) :
    ∃ x, o = some x ∧ 0 ≤ x ∧ x ≤ hi := by
  cases o with
  | none => cases h
  | some x => exact ⟨x, rfl, by simpa using h⟩

/-- Every interface of the case meets its commit conditions. -/
theorem good (j : Fin 5) (hj : j.val < rig.count) : rig.InterfaceGood j := by
  unfold Profile.InterfaceGood
  refine ⟨?_, ?_, ?_, ?_, ?_, ?_, ?_, fun i hi => within_of_any ?_, ?_⟩
  · revert j; decide +kernel
  · revert j; decide +kernel
  · revert j; decide +kernel
  · revert j; decide +kernel
  · revert j; decide +kernel
  · revert j; decide +kernel
  · revert j; decide +kernel
  · revert i; revert j; decide +kernel
  · revert j; decide +kernel

/-- The profile of the case passes every check, the table UNCOMMITTED and COMMITTED; with S3 at S2's nested bottom offset its third section fails; and one record at a time
spoiled, each passes the checks before it. -/
theorem witness_CommitProfileDemand :
    (asking .recorder (dem 0x20 0) config).demands .recorder 0x20 (dem 0x20 0) [] ∧ deep.ctl.mode ≠ .config ∧
    (config.ctl.mode = .config ∧ config.profile.committed = false ∧ config.faults.committed = false) ∧
    (let s : State := { config with faults := { config.faults with committed := true } }; s.faults.committed = true ∧ s.kelly.known = false) ∧
    (rig.MachineGood ∧ rig.KellyGood ∧ (∀ j : Fin 5, j.val < rig.count → rig.SectionGood j ∧ rig.InterfaceGood j) ∧ rig.ToolGood) ∧
    ¬ ({ rig with machine := { rig.machine with rTop := some (-2499) } } : Profile).MachineGood ∧
    ¬ ({ rig with kelly := { rig.kelly with seatTol := some 90 } } : Profile).KellyGood ∧
    (let p : Profile := { rig with sections := rig.sections.set 2 ⟨some 15000, some 3100, some 400, some 5000, some 12500⟩ };
      (∀ j : Fin 5, j.val < 2 → p.SectionGood j) ∧ ¬ p.SectionGood 2) ∧
    (let p : Profile := { rig with interfaces := rig.interfaces.set 1 (iface 12500 3800 3600 [1000, 1099]) };
      p.InterfaceGood 0 ∧ ¬ p.InterfaceGood 1) ∧
    ¬ ({ rig with tool := { rig.tool with height := none } } : Profile).ToolGood := by
  refine ⟨⟨⟨rfl, rfl⟩, rfl, rfl, rfl⟩, by decide +kernel, by decide +kernel, by decide +kernel,
    ⟨⟨by decide +kernel, by decide +kernel⟩, ⟨by decide +kernel, by decide +kernel⟩, fun j hj => ⟨?_, good j hj⟩, ?_⟩, ?_, ?_, ⟨?_, ?_⟩,
    ⟨good 0 (by decide +kernel), ?_⟩, ?_⟩
  · revert j; unfold Profile.SectionGood; decide +kernel
  · unfold Profile.ToolGood; decide +kernel
  · unfold Profile.MachineGood; decide +kernel
  · unfold Profile.KellyGood; decide +kernel
  · unfold Profile.SectionGood; decide +kernel
  · unfold Profile.SectionGood; decide +kernel
  · intro h; exact absurd (h.2.2.2.2.2.2.2.2 0 1 rfl (by decide +kernel)) (by decide +kernel)
  · unfold Profile.ToolGood; decide +kernel

/-- RECONFIGURE refused in OPERATING; taken in SURVEY_REQUIRED and from STOW with the sequencer STOPPED. -/
theorem witness_ReconfigureDemand :
    (asking .recorder (dem 0x21 0) deep).demands .recorder 0x21 (dem 0x21 0) [] ∧ deep.ctl.mode = .operating ∧
    (let s : State := { lost deep with ctl := ⟨.surveyRequired, none, .idle, false⟩ }; s.seq.state = .stopped ∧ s.ctl.mode = .surveyRequired) ∧
    (let s : State := { deep with ctl := ⟨.parked, some ⟨.stow, ⟨some 1000, some 5000, some 0⟩⟩, .idle, false⟩ };
      s.seq.state = .stopped ∧ s.ctl.mode = .parked ∧ (∃ refs, s.ctl.park = some ⟨.stow, refs⟩) ∧ s.kelly.known = true) := by
  exact ⟨⟨⟨rfl, rfl⟩, rfl, rfl, rfl⟩, rfl, ⟨rfl, rfl⟩, rfl, rfl, ⟨_, rfl⟩, rfl⟩

/-! ### Witnesses: samples -/

theorem deep_quiet : deep.Quiet ∧ hanging.Quiet ∧ (lost deep).Quiet ∧ State.reset.Quiet :=
  ⟨⟨rfl, rfl, rfl⟩, ⟨rfl, rfl, rfl⟩, ⟨rfl, rfl, rfl⟩, ⟨rfl, rfl, rfl⟩⟩

/-- A stroke in flight that no sample runs to NEST and that keeps no watch on a sample: a DWELL, a SLED and a DESCEND on the way. -/
theorem flying_noNest {o : Order} {p : Phase} (s : State) (h : p ∈ [Phase.run, .move, .rampUp, .advance, .wait]) (hm : s.ctl.mode = .operating) :
    (flying o (stroke p) s).NoNest ∧ (flying o (stroke p) s).Watched = false := by
  refine ⟨?_, by simp [State.Watched, flying, handed, stroke, Stroke.fresh, hm]⟩
  rintro x ⟨⟩
  refine .inr (.inr ⟨?_, ?_⟩) <;> (rintro rfl; simp [stroke] at h)

/-- The first sample; the model UNKNOWN; the chain fully engaged with the rope 100 mm and 101 mm out; the kelly free, with 101 mm that no
travel is left for; a DWELL and a DESCEND in flight. -/
theorem witness_RopePayoutSample :
    (∀ n ∈ ([0, 1000000, 1100, 1101, 13101] : List Int), 0 ≤ n ∧ n ≤ 1000000) ∧
    (deep.ctl.mode ≠ .parked ∧ deep.axes.topState ≠ some true ∧ State.reset.kelly.ropeBaseline = none ∧
      deep.kelly.ropeBaseline = some 1000 ∧ (lost deep).kelly.known = false) ∧
    (deep.unplaced = some 0 ∧ deep.chainEngaged = true ∧ magnitude (0 + ((1100 : Int) - 1000)) ≤ 100 ∧
      100 < magnitude (0 + ((1101 : Int) - 1000))) ∧
    (hanging.unplaced = some 0 ∧ hanging.chainEngaged = false ∧ hanging.kelly.latch = false ∧
      (after (.ropePayoutSample 13101) hanging).unplaced = some 101) ∧
    (let s := flying dwellOrder (stroke .wait) deep;
      s.NoNest ∧ s.Watched = false ∧ s.kelly.ropeBaseline = some 1000 ∧ s.kelly.rotation = none ∧ s.unplaced = some 0 ∧ s.chainEngaged = true) ∧
    (let s := flying descendOrder (stroke .run) hanging;
      s.NoNest ∧ s.Watched = false ∧ s.kelly.ropeBaseline = some 1000 ∧ s.kelly.rotation = none ∧ s.unplaced = some 0 ∧ s.chainEngaged = false) ∧
    ((flying dwellOrder (stroke .wait) (lost deep)).NoNest ∧ (flying dwellOrder (stroke .wait) (lost deep)).kelly.known = false) := by
  refine ⟨by decide +kernel, by decide +kernel, by decide +kernel, by decide +kernel, ?_, ?_, ?_, rfl⟩
  · exact ⟨(flying_noNest deep (by decide) rfl).1, (flying_noNest deep (by decide) rfl).2, by decide +kernel⟩
  · exact ⟨(flying_noNest hanging (by decide) rfl).1, (flying_noNest hanging (by decide) rfl).2, by decide +kernel⟩
  · exact (flying_noNest (lost deep) (by decide) rfl).1

/-- The top stop ON with the count 1000 and without; a sample one past its threshold, and at it. -/
def stopped (count : Option Int) : State := { deep with axes := { deep.axes with topState := some true, topCount := count } }

theorem witness_TopStopSampleAndWatch :
    ((stopped none).Quiet ∧ (stopped (some 1000)).Quiet) ∧
    deep.axes.topState ≠ some (!true) ∧ (stopped none).axes.topState = some (!false) ∧
    ((stopped none).axes.topState = some true ∧ (stopped none).ctl.mode ≠ .parked ∧ (stopped none).ctl.mode ≠ .config ∧
      (stopped none).axes.topCount = none) ∧
    ((stopped (some 1000)).axes.topCount = some 1000 ∧ (899 : Int) < 1000 - 100 ∧ (1000 : Int) - 100 ≤ 900 ∧
      (stopped (some 1000)).axes.topLatch = false) := by
  exact ⟨⟨⟨rfl, rfl, rfl⟩, rfl, rfl, rfl⟩, by decide +kernel, by decide +kernel, by decide +kernel, by decide +kernel⟩

/-- The case hauled up past the datum: the sled and the rope depth given, every interface in a low station, engaged or free. -/
def shallow (engaged : Bool) (sled rope : Int) : State := { deep with
  kelly := { deep.kelly with
    interfaces := #v[⟨if engaged then .engaged 0 else .aligned 0, some 500⟩, ⟨if engaged then .engaged 0 else .aligned 0, some 1000⟩,
      ⟨if engaged then .engaged 0 else .aligned 0, some 1000⟩, ⟨if engaged then .engaged 0 else .aligned 0, some 1000⟩, ⟨.unknown, none⟩]
    sled := some sled, ropeDepth := some rope, datumState := some false } }

/-- No pass; a pass UNKNOWN; a pass with the chain engaged 100 mm and 101 mm out, correcting 150 mm and 151 mm; a pass with the kelly free; a
stroke in flight at each of them. -/
theorem witness_DatumSample :
    (∀ e ∈ [true, false], (shallow e 5000 (-2150)).kelly.datumState = some false ∧ (shallow e 5000 (-2150)).ctl.mode ≠ .parked) ∧
    deep.kelly.datumState ≠ some false ∧ (lost (shallow true 5000 (-2150))).kelly.known = false ∧
    ((shallow true 4900 (-2150)).unplaced = some (-50) ∧ (shallow true 4900 (-2150)).kelly.ropeDepth = some (-2150) ∧
      (shallow true 4900 (-2150)).chainEngaged = true ∧ magnitude (-50 + (-2000 - -2150)) ≤ 100 ∧ ¬ 150 < magnitude (-2000 - -2150)) ∧
    ((shallow true 4899 (-2151)).unplaced = some (-50) ∧ (shallow true 4899 (-2151)).chainEngaged = true ∧
      100 < magnitude (-50 + (-2000 - -2151)) ∧ 150 < magnitude (-2000 - -2151)) ∧
    ((shallow false 5000 (-2151)).unplaced = some (-151) ∧ (shallow false 5000 (-2151)).kelly.ropeDepth = some (-2151) ∧
      (shallow false 5000 (-2151)).chainEngaged = false) ∧
    (∀ e : Bool,
      let s := flying dwellOrder (stroke .wait) (shallow e 5000 (-2100));
      s.NoNest ∧ s.Watched = false ∧ s.kelly.datumState = some false ∧ s.kelly.known = true ∧ s.kelly.rotation = none ∧
      s.kelly.ropeDepth = some (-2100) ∧ s.unplaced = some (-100) ∧ s.chainEngaged = e ∧ magnitude (-100 + (-2000 - -2100)) ≤ 100) ∧
    ((flying dwellOrder (stroke .wait) (lost (shallow true 5000 0))).NoNest ∧
      (flying dwellOrder (stroke .wait) (lost (shallow true 5000 0))).kelly.datumState = some false) := by
  refine ⟨by decide +kernel, by decide +kernel, by decide +kernel, by decide +kernel, by decide +kernel, by decide +kernel, fun e => ?_, ?_, rfl⟩
  · exact ⟨(flying_noNest (shallow e 5000 (-2100)) (by decide) rfl).1, (flying_noNest (shallow e 5000 (-2100)) (by decide) rfl).2,
      by cases e <;> decide +kernel⟩
  · exact (flying_noNest (lost (shallow true 5000 0)) (by decide) rfl).1

/-- Samples at the ends of their ranges; a port that has given no sample; a limit set waiting at the model. -/
theorem witness_ToolLoadAndTob :
    (∀ x ∈ ([0, 30000] : List Int), 0 ≤ x ∧ x ≤ 30000) ∧ (∀ x ∈ ([0, 4500] : List Int), 0 ≤ x ∧ x ≤ 4500) ∧
    (deep.kelly.pressCap = none ∧ deep.kelly.pressRod = none ∧ deep.profile.committed = true) ∧
    (let s : State := { after .limitRecomputation deepDue with kelly := { deep.kelly with pressRod := some 200 } };
      s.mail.limitModel = 0 + 1 ∧ s.kelly.pressRod = some 200 ∧ s.limits.set.wTotal = some 1470 ∧ s.kelly.known = true) := by decide +kernel

/-- The first sample; the model UNKNOWN; the locked chain 100 mm and 101 mm out; interface 0 free, brought to exactly 0; a
stroke in flight at each of them. -/
theorem witness_SledSample :
    (∀ x ∈ ([0, 8000, 5100, 5101, 5500] : List Int), 0 ≤ x ∧ x ≤ fig deep.profile.machine.sledTravel) ∧
    (State.reset.kelly.sled = none ∧ State.reset.profile.committed = false ∧ deep.ctl.mode ≠ .parked) ∧
    ((lost deep).kelly.known = false ∧ deep.kelly.sled = some 5000 ∧ deep.unplaced = some 0 ∧ deep.toolDepth = some 45500 ∧
      deep.chainEngaged = true ∧ magnitude (0 - ((5100 : Int) - 5000)) ≤ 100 ∧ 100 < magnitude (0 - ((5101 : Int) - 5000))) ∧
    (hanging.chainEngaged = false ∧ (0 : Fin 5).val = hanging.engagedRun ∧ (hanging.kelly.st 0).isReleased = true ∧
      (∀ k : Fin 5, 0 ≤ hanging.kelly.pos k ∧ hanging.kelly.pos k ≤ hanging.profile.travel k) ∧
      hanging.kelly.pos 0 - ((5500 : Int) - 5000) = 0 ∧ hanging.kelly.pos 0 - ((5500 : Int) - 5000) ≤ hanging.profile.travel 0) ∧
    (let s := flying dwellOrder (stroke .wait) deep;
      s.NoNest ∧ s.Watched = false ∧ s.kelly.sled = some 5000 ∧ s.unplaced = some 0 ∧ s.kelly.rotation = none ∧ s.chainEngaged = true) ∧
    (let s := flying (plain .sled) (stroke .move) hanging;
      s.NoNest ∧ s.Watched = false ∧ s.kelly.sled = some 5000 ∧ s.unplaced = some 0 ∧ s.kelly.rotation = none ∧ s.chainEngaged = false ∧
      (0 : Fin 5).val = s.engagedRun ∧ State.PositionsInRange s.profile s.kelly ∧ (after (.sledPositionSample 5500) s).kelly.known = true) := by
  refine ⟨by decide +kernel, by decide +kernel, by decide +kernel, by decide +kernel, ?_, ?_⟩
  · exact ⟨(flying_noNest deep (by decide) rfl).1, (flying_noNest deep (by decide) rfl).2, by decide +kernel⟩
  · exact ⟨(flying_noNest hanging (by decide) rfl).1, (flying_noNest hanging (by decide) rfl).2, by unfold State.PositionsInRange; decide +kernel⟩

/-- The locked kelly on the bottom, its crowd just below the hold-in force, at the angle 14.0°. -/
def restrained : State := { deep with kelly := { deep.kelly with tob := true, crowdForce := some 299, angle := some 140 } }

/-- No angle yet; clockwise; still; anticlockwise free, and with the crowd force absent; anticlockwise restrained one step short of seat − tol,
and to it. Speeds and pressures at the ends of their ranges; both ports, the gear and the profile there, and the other port silent. -/
theorem witness_RotarySamples :
    restrained.Quiet ∧ restrained.ctl.mode ≠ .parked ∧ deep.kelly.angle = none ∧ restrained.kelly.angle = some 140 ∧
    ((140 : Int) < 141 ∧ (1 : Int) < 140 ∧ deep.kelly.tob = false) ∧
    ((∃ k : Fin 5, k.val < restrained.profile.count ∧ ∃ j, restrained.kelly.interfaces[k].state = .engaged j) ∧
      restrained.kelly.tob = true ∧ ∃ f, restrained.kelly.crowdForce = some f ∧ f < fig restrained.profile.kelly.holdIn) ∧
    ¬ ({ restrained with kelly := { restrained.kelly with crowdForce := none } } : State).Restrained ∧
    (let edge := fig restrained.profile.kelly.seatAngle - fig restrained.profile.kelly.seatTol;
      restrained.kelly.springBack + (140 - 1) < edge ∧ edge ≤ restrained.kelly.springBack + (140 - 0)) ∧
    (∀ x ∈ ([-999, -2, -1, 1, 2, 999] : List Int), -999 ≤ x ∧ x ≤ 999) ∧ (∀ x ∈ ([0, 4500] : List Int), 0 ≤ x ∧ x ≤ 4500) ∧
    (let s : State := { deep with kelly := { deep.kelly with pressB := some 0 } };
      s.kelly.pressB = some 0 ∧ s.axes.gear = some .low ∧ s.profile.committed = true) ∧ deep.kelly.pressB = none := by
  refine ⟨⟨rfl, rfl, rfl⟩, by decide +kernel, rfl, rfl, by decide +kernel, ⟨⟨0, by decide +kernel, 0, by decide +kernel⟩, rfl, ⟨299, rfl, by decide +kernel⟩⟩,
    fun h => ?_, by decide +kernel⟩
  obtain ⟨_, _, f, h, _⟩ := h
  cases h

/-- PARKED with LATCH, the references those of the case, and a re-seat state; a torque below the confirm torque after the next sample of port A. -/
def parkedAt (r : Reseat) (s : State) : State := { s with
  ctl := ⟨.parked, some ⟨.latch, ⟨some 29000, some 5000, some 100⟩⟩, r, true⟩
  kelly := { s.kelly with angle := some 100, pressB := some 0 } }

/-- The park watch and the re-seat check: the rope and the sled 50 mm and 51 mm from their references (the chain locked), the angle 4.0 and 4.1
degrees, IDLE and in a check; the torque at the confirm torque and just below it, the angle within the tolerance and past it; a confirmed and
an interrupted check with the rotary at rest and moving. -/
theorem witness_ParkWatchAndReseat :
    (∀ r ∈ [Reseat.idle, .checking 225 false false, .checking 225 true false, .checking 225 false true],
      let s := parkedAt r deep;
      s.ctl.mode = .parked ∧ s.ctl.park = some ⟨.latch, ⟨some 29000, some 5000, some 100⟩⟩ ∧ s.seq.stroke = none ∧ s.kelly.rotation = none ∧
      s.ctl.reseat = r ∧ s.kelly.known = true ∧ s.kelly.ropeBaseline = some 1000 ∧ s.kelly.ropeDepth = some 29000 ∧ s.unplaced = some 0 ∧
      s.chainEngaged = true ∧ s.kelly.sled = some 5000 ∧ s.axes.rotary.setpoint = 0 ∧ 0 ≤ s.rotaryMax ∧ s.mail.orders = [] ∧
      s.axes.governor = .free) ∧
    (∀ n ∈ ([1050, 1051] : List Int), 0 ≤ n ∧ n ≤ 1000000 ∧ magnitude (0 + (n - 1000)) ≤ 100) ∧
    (magnitude (29000 + (1050 - 1000) - 29000) = 50 ∧ magnitude (29000 + (1051 - 1000) - 29000) = 51) ∧
    (∀ z ∈ ([4950, 4949] : List Int), 0 ≤ z ∧ z ≤ fig rig.machine.sledTravel ∧ magnitude (0 - (z - 5000)) ≤ 100) ∧
    (¬ (parkedAt .idle deep).Restrained ∧ fig rig.kelly.seatTol = 40 ∧ magnitude (140 - 100) = 40 ∧ magnitude (59 - 100) = 41) ∧
    ((after (.rotaryPressureSample .a 116) (parkedAt (.checking 225 false false) deep)).kelly.torque = some 223 ∧
      (after (.rotaryPressureSample .a 117) (parkedAt (.checking 225 false false) deep)).kelly.torque = some 225 ∧
      (still (parkedAt .idle deep)).axes.rotary.atRest = true ∧ deep.axes.rotary.atRest = false) := by
  refine ⟨by decide +kernel, by decide +kernel, by decide +kernel, by decide +kernel, ⟨fun h => ?_, by decide +kernel⟩, by decide +kernel⟩
  exact absurd h.2.1 (by decide +kernel)

/-- A gear and a shift state. -/
def geared (g : Option Gear) (h : Shift) (t : Timer) : State := { deep with axes := { deep.axes with gear := g, shift := h, shiftTimer := t } }

/-- A LOCKED BORE in ADVANCE under a stall condition, its timer one millisecond short. -/
def stalling : State :=
  let s := flying boreOrder (stroke .advance) (spinning 100 100 none false)
  { s with kelly := { s.kelly with torque := some 4300, speed := some 0 }, axes := { s.axes with stallTimer := some 1 } }

/-- Every row of R133's table, a shift under way, a shift that may begin and one that may not, and its expiry; a stall under a gear that is lost. -/
theorem witness_GearSamplesAndShifts :
    (geared none (.pending .low) none).Quiet ∧
    ((∀ g, deep.axes.shift ≠ .shifting g) ∧ deep.axes.gear = some .low ∧ (some Gear.high) ≠ some .low ∧ (none : Option Gear) ≠ some .low) ∧
    ((∀ g, (geared none (.pending .low) none).axes.shift ≠ .shifting g) ∧ (geared none (.pending .low) none).axes.gear = none) ∧
    ((geared none (.shifting .high) (some 3000)).axes.shift = .shifting .high ∧ (geared none (.shifting .high) (some 3000)).axes.gear = none ∧
      (none : Option Gear) ≠ some .high) ∧
    (let s := geared (some .low) (.pending .high) none;
      s.axes.shift = .pending .high ∧ s.axes.rotary.mode = .braked ∧ holds s.axes.union .gearShift = false ∧ s.axes.governor = .free) ∧
    (let s : State := { geared none (.pending .high) none with axes := { (geared none (.pending .high) none).axes with union := 4096 } };
      s.axes.shift = .pending .high ∧ holds s.axes.union .gearShift = true) ∧
    (geared none (.shifting .high) (some 0)).axes.shiftTimer = some 0 ∧
    ((∀ g, stalling.axes.shift ≠ .shifting g) ∧ stalling.axes.gear = some .low ∧ stalling.axes.stallTimer = some 1) := by
  refine ⟨⟨rfl, rfl, rfl⟩, ⟨nofun, rfl, by decide +kernel, by decide +kernel⟩, ⟨nofun, rfl⟩, ⟨rfl, rfl, by decide +kernel⟩, by decide +kernel, by decide +kernel, rfl,
    nofun, rfl, rfl⟩

/-- Supervision running: a sample just outside each range, a due timer, a group clean and a group with a fault; and supervision stopped. -/
theorem witness_SensorSupervision :
    (deep.sup.active = true ∧ deep.profile.committed = true ∧ fig deep.profile.machine.sledTravel = 8000 ∧
      ((-1 : Int) < 0 ∧ (1000000 : Int) < 1000001 ∧ (30000 : Int) < 30001 ∧ (8000 : Int) < 8001 ∧ (-1000 : Int) < -999 ∧ (999 : Int) < 1000 ∧
        (4500 : Int) < 4501)) ∧
    (let s : State := { deep with sup := { deep.sup with inputs := deep.sup.inputs.set 4 ⟨some 0, false⟩ } };
      s.sup.inputs[inputIndex .sled].timer = some 0) ∧
    deep.groupClean .sled ∧
    ¬ ({ deep with sup := { deep.sup with inputs := deep.sup.inputs.set 0 ⟨some 50, true⟩ } } : State).groupClean .datum ∧
    State.reset.sup.active = false ∧ deep.sup.inputs[inputIndex .datum].timer ≠ some 0 := by
  refine ⟨by decide +kernel, by decide +kernel, ?_, fun h => absurd (h .ropePayout rfl) (by decide +kernel), rfl, by decide +kernel⟩
  intro j _; cases j <;> rfl

/-- An ENGAGE in SEATING or a RELEASE in UNSEATING, its rotation turning from 0 with the kelly at an angle, the interfaces of the case. -/
def turning (r : Rotation) (angle : Int) : State := { flying (Order.blank .engage 1) (stroke (if r.sense = .seating then .seating else .unseating)) deep with
  kelly := { deep.kelly with rotation := some r, angle := some angle, pressB := some 0 } }
def unseating : Rotation := { seating with sense := .unseating }

/-- The torque at the confirm torque and just below it, at angles 13.9°, 14.0° and 22.0° of either rotation, and the angle at 22.0° and
22.1°. -/
theorem witness_RotationClassified :
    (∀ r ∈ [seating, unseating], (turning r 139).kelly.rotation = some r ∧ r.stage = .turning ∧ r.interrupted = false ∧ r.origin = some 0 ∧
      (turning r 139).ctl.reseat = .idle ∧ (turning r 139).axes.relief = none ∧ (turning r 139).axes.rotary.atRest = false ∧
      (still (turning r 139)).axes.rotary.atRest = true ∧ (turning r 139).ctl.mode ≠ .parked) ∧
    (∀ y, (turning seating 139).seq.stroke = some y → y.phase = .seating ∨ y.phase = .unseating) ∧
    (∀ y, (turning unseating 139).seq.stroke = some y → y.phase = .seating ∨ y.phase = .unseating) ∧
    ((after (.rotaryPressureSample .a 117) (turning seating 139)).kelly.torque = some 225 ∧
      (after (.rotaryPressureSample .a 116) (turning seating 139)).kelly.torque = some 223 ∧ seating.confirm = 225) ∧
    (seating.turned (some 139) = 139 ∧ seating.turned (some 140) = 140 ∧ seating.turned (some 220) = 220 ∧ seating.turned (some 221) = 221 ∧
      unseating.turned (some (-139)) = 139 ∧ unseating.turned (some (-140)) = 140 ∧ unseating.turned (some (-220)) = 220) ∧
    (0 ≤ fig rig.kelly.seatTol ∧ fig rig.kelly.seatAngle - fig rig.kelly.seatTol = 140 ∧ fig rig.kelly.seatAngle + fig rig.kelly.seatTol = 220) ∧
    ({ unseating with aborted := true } : Rotation).stage = .turning := by
  refine ⟨by decide +kernel, ?_, ?_, by decide +kernel, by decide +kernel, by decide +kernel, rfl⟩
  · rintro y ⟨⟩; exact .inl rfl
  · rintro y ⟨⟩; exact .inr rfl

/-- A rotation of an ENGAGE that the case's plan runs, its interfaces SEATING or UNSEATING, at an angle from 0. -/
def rotating (r : Rotation) (x : Stroke) (angle : Int) : State := { flying (plain .engage) x deep with
  kelly := { deep.kelly with
    rotation := some r, angle := some angle, tob := true, tension := some 0, crowdForce := some 0
    interfaces := (swingMap 500).set 0 ⟨if r.sense = .seating then .seating 0 else .unseating 0, some 500⟩ } }

/-- A stroke that ended before its interrupted rotation is decided. -/
def closed (p : Phase) : Stroke := { stroke p with outcome := some .faulted, closed := true, met := true, endState := .faulted }

/-- A confirmed rotation; an interrupted one of either sense in each stage, at 13.9 and at 14.0 degrees; the end of a creep back at an angle of
0 and one step before it, of an aborted stroke, of either sense, with two and with three attempts made, the plan held, TOB lost, and inhibited. -/
theorem witness_RotationEnds :
    (∀ r ∈ [seating, unseating], ∀ g ∈ [Stage.turning, .back, .resting], ∀ x ∈ [stroke .creepBack, closed .seating],
      let u : Rotation := { r with stage := g, interrupted := true };
      let s := rotating u x 139;
      s.kelly.rotation = some u ∧ s.ctl.reseat = .idle ∧ s.axes.relief = none ∧ s.ctl.mode ≠ .parked ∧ s.kelly.known = true ∧
      s.axes.rotary.setpoint = 0 ∧ 0 ≤ s.rotaryMax ∧ s.mail.orders = [] ∧ s.seq.stroke = some x ∧ (closed .seating).closed = true) ∧
    (seating.turned (some 139) = 139 ∧ seating.turned (some 140) = 140 ∧ unseating.turned (some (-139)) = 139 ∧
      unseating.turned (some (-140)) = 140 ∧ fig rig.kelly.seatAngle - fig rig.kelly.seatTol = 140) ∧
    (∀ n ∈ [2, 3], ∀ b ∈ [false, true],
      let x : Stroke := { stroke .creepBack with inhibited := b, figures := { (stroke .creepBack).figures with seatAttempts := n } };
      let r : Rotation := { seating with stage := .back };
      let s := rotating r x 1;
      s.seq.stroke = some x ∧ x.phase = .creepBack ∧ r.interrupted = false ∧ r.origin = some 0 ∧ x.met = false ∧ x.closed = false ∧
      s.kelly.st 0 = .seating 0 ∧ s.ring[x.index].order = plain .engage) ∧
    (let r : Rotation := { seating with stage := .back };
      let s := rotating r (stroke .creepBack) 1;
      let returned : State := { s with kelly := s.kelly.release s.profile IfState.isSeating };
      returned.planAligned (plain .engage) = true ∧ returned.planOnly (plain .engage) = true ∧
      (after (.rotaryAngleSample 0) s).kelly.tob = false ∧
      (after (.rotaryAngleSample 0) (loaded 1470 3600 s)).kelly.tob = true ∧
      (after (.rotaryAngleSample 0) (loaded 1470 3600 s)).kelly.st 0 = .seating 0) ∧
    ((0 : Int) < 1 - 0 ∧ (0 : Int) - 0 ≤ 0 ∧ ({ unseating with stage := .back, aborted := true } : Rotation).aborted = true) := by
  refine ⟨by decide +kernel, by decide +kernel, by decide +kernel, by decide +kernel, by decide +kernel⟩

/-! ### Witnesses: the stroke in flight -/

/-- A stroke with its outcome decided and no phase left. -/
def ended (o : Outcome) (e : EndState) : Stroke := { stroke .wait with outcome := some o, closed := true, endState := e }

/-- An open stroke; one that ends HELD; one that ends RUNNING before a CONSOLE-owned entry and before a UNIT-owned DWELL; a PARK done. -/
theorem witness_StrokeCompletes :
    ((flying dwellOrder (stroke .wait) deep).seq.stroke = some (stroke .wait) ∧ (stroke .wait).outcome = none ∧
      (still deep).axes.hoist.atRest = true ∧ (still deep).axes.crowd.atRest = true ∧ (still deep).axes.rotary.atRest = true) ∧
    (let s := flying dwellOrder (ended .done .held) (still deep);
      s.seq.stroke = some (ended .done .held) ∧ (ended .done .held).outcome = some .done ∧ (ended .done .held).closed = true ∧
      (ended .done .held).endsIn ≠ .running ∧ s.ring[(0 : Fin 32)].order.kind ≠ .park ∧ s.seq.state = .running) ∧
    (let s := flying dwellOrder (ended .done .running) (still deep);
      (ended .done .running).endsIn = .running ∧ s.ring[(0 : Fin 32) + 1].owner = .console ∧ s.seq.state = .running) ∧
    (let s : State := { flying dwellOrder (ended .done .running) (still deep) with
        ring := (deep.ring.set 0 ⟨.unit, dwellOrder, none⟩).set 1 ⟨.unit, dwellOrder, none⟩ };
      s.ring[(0 : Fin 32) + 1].owner = .unit ∧ s.ring[(0 : Fin 32) + 1].order.kind = .dwell ∧ s.ctl.mode = .operating ∧
      s.kelly.rotation = none ∧ s.ctl.reseat = .idle) ∧
    (let x := { ended .done .held with parkDue := some ⟨some 1000, some 5000, some 0⟩ };
      let s := flying { Order.blank .park 1 with parkKind := some .latch } x (still deep);
      s.seq.stroke = some x ∧ s.ring[x.index].order.kind = .park ∧ s.ctl.mode = .operating ∧
      x.parkDue = some ⟨some 1000, some 5000, some 0⟩ ∧ x.endsIn ≠ .running) := by decide +kernel

/-- A state with a stroke in its motion phase and a change of D waiting. -/
def ending (o : Order) (x : Stroke) (new : Int) : State :=
  { flying o x deep with mail := { deep.mail with depthSeq := [⟨45500, new⟩], tobSeq := [true] } }

/-- The targets reached and missed by a millimetre, the advance likewise; TOB of a DESCEND; the top stop of a HOIST. -/
theorem witness_StrokeEndings :
    ((ending descendOrder (stroke .run) 46000).seq.stroke = some (stroke .run) ∧ (stroke .run).inMotion = true ∧
      (stroke .run).inhibited = false ∧ deep.kelly.rotation = none ∧ deep.ctl.reseat = .idle ∧ deep.axes.relief = none) ∧
    ((ending descendOrder (stroke .run) 46000).mail.depthSeq = ⟨45500, 46000⟩ :: [] ∧ fig descendOrder.targetDepth ≤ 46000 ∧
      ¬ fig descendOrder.targetDepth ≤ 45999 ∧ descendOrder.kind = .descend) ∧
    (hoistOrder.kind = .hoist ∧ hoistOrder.toTop ≠ some true ∧ (40000 : Int) ≤ fig hoistOrder.targetDepth ∧
      ¬ (40001 : Int) ≤ fig hoistOrder.targetDepth) ∧
    (let x := { stroke .advance with origin := some 45500, advance := 500 };
      (ending boreOrder x 46000).seq.stroke = some x ∧ x.inMotion = true ∧ x.origin = some 45500 ∧ boreOrder.kind = .bore ∧
      x.phase = .advance ∧ x.advance ≤ 46000 - 45500 ∧ (45999 : Int) - 45500 < x.advance) ∧
    (ending descendOrder (stroke .run) 46000).mail.tobSeq = true :: [] ∧
    ({ flying hoistOrder (stroke .run) deep with axes := { deep.axes with topState := some false } } : State).axes.topState = some false := by
  decide +kernel

/-- A HANGING BORE that a reaction has met in RAMP_DOWN, under its window watch. -/
def metInRampDown : Stroke := { stroke .rampDown with outcome := some .target, met := true, closed := true, windowWatch := true }

/-- A sled 5 mm and 6 mm from its target, 5 mm and 4 mm nearer than its reference; the sled at the end of its travel with the advance reached
exactly, missed by a millimetre, and clamped; a HANGING BORE met in its RAMP_DOWN. -/
theorem witness_SamplesAtStroke :
    ((flying hangOrder metInRampDown hanging).seq.stroke = some metInRampDown ∧ metInRampDown.phase = .rampDown ∧
      metInRampDown.windowWatch = true) ∧
    (let x := { stroke .move with sledTarget := 5100, sledWatch := some 1, sledRef := 5000 };
      let s := flying (plain .sled) x hanging;
      s.seq.stroke = some x ∧ s.kelly.rotation = none ∧ s.ctl.reseat = .idle ∧ s.axes.relief = none ∧ s.ctl.mode ≠ .parked ∧
      s.ring[x.index].order.kind = .sled ∧ x.phase = .move ∧ x.inMotion = true ∧ s.ctl.latchRequest = false ∧ s.axes.governor = .free ∧
      (∀ z ∈ ([5095, 5094, 5005, 5004] : List Int), 0 ≤ z ∧ z ≤ fig s.profile.machine.sledTravel) ∧
      magnitude (x.sledTarget - 5095) = 5 ∧ magnitude (x.sledTarget - 5094) = 6 ∧
      magnitude (x.sledTarget - x.sledRef) - magnitude (x.sledTarget - 5005) = 5 ∧
      magnitude (x.sledTarget - x.sledRef) - magnitude (x.sledTarget - 5004) = 4) ∧
    (∀ c ∈ [false, true],
      let x := { stroke .advance with origin := some 45500, advance := 100, advanceClamped := c };
      let s : State := { flying boreOrder x deep with kelly := { deep.kelly with sled := some 7900, ropeDepth := some 31900 } };
      s.seq.stroke = some x ∧ boreOrder.isLocked = true ∧ x.boring = true ∧ s.chainEngaged = true ∧ s.toolDepth = some 48400 ∧
      s.unplaced = some 0 ∧ magnitude (0 - (8000 - 7900)) ≤ 100 ∧ fig s.profile.machine.sledTravel = 8000 ∧
      x.advance ≤ 48400 + (8000 - 7900) - 48400 ∧ ¬ x.advance ≤ 48400 + (8000 - 7900) - 48401) ∧
    (∀ p ∈ [Phase.turnCw, .turnCcw],
      let x := { stroke p with turnOrigin := some 0, cyclesLeft := 2 };
      let s := flying (plain .spin) x deep;
      s.seq.stroke = some x ∧ x.phase = p ∧ x.closed = false ∧ x.met = false ∧ x.turnStopping = false ∧ x.inhibited = false ∧
      s.axes.rotary.atRest = false ∧ s.sup.inFault .rotarySpeed = false ∧ ({ x with turnStopping := true } : Stroke).turnStopping = true ∧
      (1799 : Int) < 1800 ∧ (1800 : Int) - 0 = 1800 ∧ (0 : Int) - -1800 = 1800 ∧ 1 < x.cyclesLeft ∧
      ({ x with cyclesLeft := 1 } : Stroke).cyclesLeft ≤ 1) ∧
    (let s := flying boreOrder (stroke .advance) (spinning 200 100 none false);
      (stroke .advance).boring = true ∧ 0 < s.axes.rotary.setpoint ∧ 95 * s.axes.limits.torque ≤ 100 * magnitude 4085 ∧
      ¬ 95 * s.axes.limits.torque ≤ 100 * magnitude 4084 ∧ magnitude (-9) < 10 ∧ ¬ magnitude 10 < 10 ∧ -999 ≤ (10 : Int)) ∧
    (let s := flying descendOrder (stroke .run) { rolling with axes := { rolling.axes with hoist := { rolling.axes.hoist with setpoint := 1 } } };
      s.ring[(stroke .run).index].order.kind = .descend ∧ (stroke .run).phase = .run ∧ (49 : Int) < 50 ∧ 0 < s.axes.hoist.setpoint ∧
      s.axes.slackLatch = false ∧ s.kelly.tob = false ∧ (after (.ropeTensionSample 49 false) s).kelly.tob = false) ∧
    (let s := flying hoistOrder (stroke .run) (loaded 1470 3600 hanging);
      s.ring[(stroke .run).index].order.kind = .hoist ∧ s.limits.set.hoistLine < 3601 ∧ ¬ s.limits.set.hoistLine < 3600 ∧
      s.axes.overpullLatch = false) := by
  refine ⟨by decide +kernel, by decide +kernel, by decide +kernel, by decide +kernel, by decide +kernel, by decide +kernel, by decide +kernel⟩

/-- RAISE with the hoist at rest after the top stop. The nest position of this kelly is -3,000 + 16,500 + 9,000 - 15,000 = 7,500 mm. -/
def lifted (sled : Int) : State := { still (flying (Order.blank .survey 1) { stroke .raise with raiseStopping := true } deep) with
  kelly := { Kelly.reset with sled := some sled, ropeDepth := some (-2900), ropeBaseline := some 1000 }, ctl := ⟨.surveyRequired, none, .idle, false⟩ }

/-- A SURVEY in a phase, the model UNKNOWN. -/
def surveying (x : Stroke) (s : State) : State := { flying (plain .survey) x (lost s) with
  ctl := ⟨.surveyRequired, none, .idle, false⟩, kelly := { (lost s).kelly with angle := some 100, pressB := some 0 } }

/-- START of a SURVEY with the model known and UNKNOWN, the tool load a tenth of the dry weight and more; UNSEAT at the end of its window and past
it, its torque inside the window and at its edges; its rest, inhibited or not, the top stop ON or not; RAISE at 1.2 times the dry weight and
above, the rope 50 mm and 49 mm from the count; the top stop; NEST within each tolerance and past it. -/
theorem witness_SurveyRuns :
    ((asking .console (dem 1 0) deep).demands .console 1 (dem 1 0) [] ∧
      ∀ m ∈ [UnitMode.operating, .surveyRequired],
        let s : State := { deep with
          ctl := ⟨m, none, .idle, false⟩, kelly := { deep.kelly with tension := some 1503, known := decide (m = .operating) }
          limits := { deep.limits with dry := ⟨deep.limits.dry.sections, none, some 1670⟩ } };
        s.Passes (plain .survey) ∧ s.seq.state = .stopped ∧ s.faults.state = .clear) ∧
    (∀ p ∈ [Phase.unseat, .raise],
      let x := stroke p; let s := surveying x deep;
      s.seq.stroke = some x ∧ x.closed = false ∧ x.met = false ∧ s.ring[x.index].order.kind = .survey ∧ s.kelly.rotation = none ∧
      s.ctl.reseat = .idle ∧ s.axes.relief = none ∧ s.ctl.mode ≠ .parked ∧ s.kelly.known = false ∧ s.kelly.tob = false ∧
      s.axes.rotary.atRest = false ∧ s.axes.hoist.atRest = false ∧ s.sup.inFault .rotarySpeed = false ∧ s.sup.inFault .ropePayout = false ∧
      s.axes.topState = none ∧ s.kelly.angle = some 100 ∧ s.kelly.ropeBaseline = some 1000) ∧
    (let x := { stroke .unseat with unseatOrigin := some 220, unseatWatch := some 1, unseatConfirm := 225 };
      x.unseatPassed = false ∧ (220 : Int) - 0 = 220 ∧ (220 : Int) - -1 = 221 ∧ (220 : Int) - 80 = 140 ∧ (220 : Int) - 81 = 139 ∧
      fig rig.kelly.seatAngle + fig rig.kelly.seatTol = 220 ∧ ({ x with unseatPassed := true } : Stroke).unseatPassed = true ∧
      (after (.rotaryPressureSample .a 117) (surveying x deep)).kelly.torque = some 225) ∧
    (({ deep with axes := { deep.axes with topState := some true } } : State).axes.topState = some true ∧
      ({ stroke .unseat with inhibited := true } : Stroke).inhibited = true) ∧
    (let s : State := { surveying (stroke .raise) deep with limits := { deep.limits with dry := ⟨deep.limits.dry.sections, none, some 1675⟩ } };
      s.limits.dry.total = some 1675 ∧ (stroke .raise).raiseStopping = false ∧ (5 * 2010 : Int) ≤ 6 * 1675 ∧ (6 * 1675 : Int) < 5 * 2011 ∧
      (50 : Int) ≤ magnitude (1050 - 1000) ∧ magnitude (1049 - 1000) < 50) ∧
    (∀ z ∈ ([7400, 7399, 7600, 7601] : List Int), (lifted z).kelly.known = false ∧ (lifted z).axes.hoist.atRest = true ∧
      (lifted z).sup.inFault .ropePayout = false ∧ (lifted z).kelly.ropeDepth = some (-2900)) ∧
    (let top := fig rig.machine.rTop;
      magnitude (-2900 - top) ≤ 200 ∧ (lifted 7400).driveDepth = some (-1600) ∧
      magnitude (top + rig.topToTip - (-1600 + rig.nestedReach)) = 100 ∧ magnitude (top + rig.topToTip - (-1601 + rig.nestedReach)) = 101) := by
  refine ⟨⟨⟨⟨rfl, rfl⟩, rfl, rfl, rfl⟩, fun m hm => ⟨passes (by revert m; decide +kernel), rfl, rfl⟩⟩, by decide +kernel, by decide +kernel, by decide +kernel, by decide +kernel, by decide +kernel, by decide +kernel⟩

/-- A mark armed at 46,000 mm. -/
def marked (d : MarkDirection) (a : MarkAction) (s : State) : State :=
  { s with marks := s.marks.set 7 ⟨46000, d, a, .armed⟩, mail := { s.mail with depthMark := [⟨45999, 46000⟩] } }

/-- A mark crossed to its depth exactly, downward and upward; one not crossed; with no stroke, and with a stroke in and out of its motion
phase: a DESCEND, a BORE of either mode in RAMP_UP and in ADVANCE, a SLED, a SPIN in either turn, and a DWELL. -/
theorem witness_MarkCrossing :
    (marked .down .hold deep).mail.depthMark = ⟨45999, 46000⟩ :: [] ∧
    (marked .down .hold deep).marks[(7 : Fin 8)].Crosses ⟨45999, 46000⟩ ∧ (marked .up .hold deep).marks[(7 : Fin 8)].Crosses ⟨46001, 46000⟩ ∧
    (¬ ∃ k : Fin 8, (marked .up .hold deep).marks[k].Crosses ⟨45999, 46000⟩) ∧
    (∃ k : Fin 8, (marked .down .hold deep).marks[k].Crosses ⟨45999, 46000⟩ ∧ (marked .down .hold deep).marks[k].action = .hold) ∧
    (∃ k : Fin 8, (marked .down .endStroke deep).marks[k].Crosses ⟨45999, 46000⟩ ∧ (marked .down .endStroke deep).marks[k].action = .endStroke) ∧
    deep.seq.stroke = none ∧ (stroke .rampDown).inMotion = false ∧
    (let s := marked .down .hold (flying descendOrder (stroke .run) deep);
      s.seq.stroke = some (stroke .run) ∧ (stroke .run).inMotion = true ∧ (stroke .run).inhibited = false ∧ s.kelly.rotation = none ∧
      s.ctl.reseat = .idle ∧ s.axes.relief = none ∧ s.ring[(stroke .run).index].order.kind = .descend) ∧
    (∀ o ∈ [boreOrder, hangOrder], ∀ p ∈ [Phase.rampUp, .advance],
      let s := marked .down .endStroke (flying o (stroke p) deep);
      s.seq.stroke = some (stroke p) ∧ (stroke p).inMotion = true ∧ (stroke p).inhibited = false ∧ s.kelly.rotation = none ∧ s.ctl.reseat = .idle ∧
      s.ring[(stroke p).index].order.kind = .bore ∧ o.boreMode ≠ none ∧ s.axes.rotary.atRest = false ∧ s.sup.inFault .rotarySpeed = false ∧
      s.axes.governor = .free) ∧
    (∀ o ∈ [(plain .sled, Phase.move), (spinOrder, .turnCw), (spinOrder, .turnCcw), (dwellOrder, .wait)],
      let s := marked .down .endStroke (flying o.1 (stroke o.2) deep);
      s.seq.stroke = some (stroke o.2) ∧ (stroke o.2).inMotion = true ∧ (stroke o.2).inhibited = false ∧ s.kelly.rotation = none ∧
      s.ctl.reseat = .idle ∧ s.ring[(stroke o.2).index].order.kind ∉ [Kind.descend, .hoist, .bore] ∧ s.axes.governor = .free ∧
      s.ctl.latchRequest = false) := by
  refine ⟨rfl, ?_, ?_, ?_, ⟨7, ?_, by decide +kernel⟩, ⟨7, ?_, by decide +kernel⟩, rfl, by decide +kernel, by decide +kernel, by decide +kernel,
    by decide +kernel⟩ <;>
    (unfold Mark.Crosses; decide +kernel)

/-! ### Witnesses: the limit set -/



/-- The 45.5 m case, its envelope fresh and stale. -/
theorem witness_LimitTermsFormed :
    deepDue.toolDepth = some 45500 ∧ deepDue.mail.triggers = .envelope :: [] ∧ deepDue.kelly.known = true ∧ 0 < deepDue.profile.count ∧
    (deepDue.sectionBottom 3 = some 44000 ∧ (3 : Fin 5).val < deepDue.profile.count ∧ deepDue.profile.count ≤ (4 : Fin 5).val) ∧
    (deepDue.env.freshness = .fresh ∧ deepDue.env.record = some ⟨41, .normal, 2500, 3500, 4300⟩) ∧
    ({ deepDue with env := { deep.env with freshness := .stale } } : State).env.freshness ≠ .fresh ∧ deepDue.chainEngaged = true ∧
    (⟨41, .stop, 2500, 3500, 4300⟩ : EnvRecord).state = .stop ∧ 0 ≤ fig deepDue.profile.kelly.holdIn := by decide +kernel

/-- The 45.5 m case with a stability state, a debt, a settle time and a hold-in force. -/
def limited (x : Stability) (debt : Int) (t : Timer) (held : Int) : State := { deepDue with
  profile := { rig with kelly := { rig.kelly with holdIn := some held } }
  env := { deep.env with record := some ⟨41, x, 2500, 3500, 4300⟩ }, kelly := { deep.kelly with debt := debt, seatSettle := t } }

/-- The model known, and UNKNOWN outside and inside a SURVEY's UNSEAT phase. Every step of the push limit reached and missed, the chain open,
a gear held and none, a downforce request. -/
theorem witness_LimitRecomputation :
    (deepDue.mail.triggers = .envelope :: [] ∧ (lost deepDue).kelly.known = false ∧ (lost deepDue).limits.unseatPhase = false ∧
    ({ lost deepDue with limits := { deep.limits with unseatPhase := true } } : State).limits.unseatPhase = true) ∧
    Smallest rig.count (fun k => fig rig.sections[k].torque) 4500 ∧
    (hanging.chainEngaged = false ∧ (limited .normal 1 none 300).chainEngaged = true) ∧
    (∃ r, (limited .stop 0 none 300).env.record = some r ∧ r.state = .stop) ∧
    (¬ ∃ r, (limited .normal 1 none 300).env.record = some r ∧ r.state = .stop) ∧
    (2 ≤ (limited .normal 2 none 300).kelly.debt ∧ ¬ 2 ≤ (limited .normal 1 none 300).kelly.debt) ∧
    ((limited .normal 1 (some 1000) 300).kelly.seatSettle ≠ none ∧ (limited .normal 1 none 300).kelly.seatSettle = none) ∧
    ((after .limitRecomputation (limited .normal 1 (some 1000) 300)).limits.set.push = 300 ∧
      (after .limitRecomputation (limited .normal 1 (some 1000) 300)).limits.set.binding = .settle ∧
      (after .limitRecomputation (limited .normal 2 (some 1000) 918)).limits.set.push = 918 ∧
      (after .limitRecomputation (limited .normal 2 (some 1000) 918)).limits.set.binding = .debt) ∧
    (deep.axes.gear = some .low ∧ State.reset.axes.gear = none ∧ deep.limits.downforce = none) ∧
    (let s : State := { deepDue with limits := { deep.limits with downforce := some 200 } };
      s.limits.downforce = some 200 ∧ (after .limitRecomputation s).limits.set.wTotal = some 1470 ∧
      (after .limitRecomputation s).limits.set.holdback = some 1270) := by
  refine ⟨by decide +kernel, ?_⟩
  refine ⟨⟨by decide +kernel, 3, by decide +kernel, by decide +kernel⟩, by decide +kernel, ⟨_, rfl, rfl⟩, ?_, by decide +kernel, by decide +kernel, by decide +kernel, by decide +kernel, by decide +kernel⟩
  rintro ⟨r, ⟨⟩, h⟩
  cases h

/-- A push limit of 183.6 at a hold-in force of 183.7 and 183.6, the latch CLEAR and SET; a settle time running; the model UNKNOWN; a STOP;
the reset line released. -/
theorem witness_HoldInLostTest :
    (∀ f ∈ ([1836, 1837] : List Int), (limited .normal 0 none f).mail.triggers = .envelope :: [] ∧
      (limited .normal 0 none f).chainEngaged = true ∧ (limited .normal 0 none f).kelly.seatSettle = none ∧
      (after .limitRecomputation (limited .normal 0 none f)).limits.set.push = 1836 ∧ fig (limited .normal 0 none f).profile.kelly.holdIn = f) ∧
    ((limited .normal 0 none 1837).limits.holdInLost = false ∧
      ({ limited .normal 0 none 1837 with limits := { deep.limits with holdInLost := true } } : State).limits.holdInLost = true) ∧
    ((limited .normal 0 (some 1) 1837).kelly.seatSettle ≠ none ∧ (lost deepDue).kelly.known = false) ∧
    (∃ r, (limited .stop 0 none 300).env.record = some r ∧ r.state = .stop) ∧
    ({ deep with resetLine := some false } : State).resetLine = some false := by
  exact ⟨by decide +kernel, by decide +kernel, by decide +kernel, ⟨_, rfl, rfl⟩, rfl⟩

/-- Nothing in flight, and a stroke in a phase that ends on another event. -/
theorem deep_steady : deep.Steady ∧ hanging.Steady :=
  ⟨⟨rfl, rfl, rfl, fun x (h : none = some x) => nomatch h⟩, rfl, rfl, rfl, fun x (h : none = some x) => nomatch h⟩
theorem bore_steady (o : Order) (p : Phase) (h : p ∈ [Phase.run, .rampUp, .advance, .wait]) : (flying o (stroke p) deep).Steady := by
  refine ⟨rfl, rfl, rfl, ?_⟩
  rintro x ⟨⟩
  refine .inr (.inr ?_)
  simp only [List.mem_cons, List.not_mem_nil, or_false] at h
  rcases h with rfl | rfl | rfl | rfl <;> decide

/-- A channel in a mode. -/
def moding (x : Axis) (m : ChannelMode) (s : State) : State := { s with axes := s.axes.modify x fun c => { c with mode := m } }

/-- A set with every limit 0.0, and one with the hoist line limit 5.0, at the channels in each mode; a set at the sequencer with no stroke
and with a BORE of either mode. -/
theorem witness_LimitSetTaken :
    (moding .rotary .speed deep).Steady ∧
    (let s : State := { deep with mail := { deep.mail with limitAxes := [LimitSet.unknown], limitSeq := [LimitSet.unknown] } };
      s.mail.limitAxes = LimitSet.unknown :: [] ∧ s.mail.limitSeq = LimitSet.unknown :: [] ∧ s.seq.stroke = none ∧
      LimitSet.unknown.torque = 0 ∧ LimitSet.unknown.rotationCap = 0 ∧ LimitSet.unknown.hoistLine < 50 ∧ 0 ≤ LimitSet.unknown.push ∧
      0 ≤ LimitSet.unknown.pull) ∧
    ((moding .rotary .speed deep).axes.rotary.mode = .speed ∧ (moding .rotary .creep deep).axes.rotary.mode = .creep ∧
      (moding .crowd .force deep).axes.crowd.mode = .force ∧ (moding .hoist .tension deep).axes.hoist.mode = .tension) ∧
    (let w : LimitSet := { LimitSet.unknown with hoistLine := 50 };
      let s : State := { moding .hoist .tension deep with mail := { deep.mail with limitAxes := [w] } };
      50 ≤ w.hoistLine ∧ (after .limitSetAtChannels s).axes.hoist.mode = .tension) ∧
    (let s := flying boreOrder (stroke .advance) deep;
      s.seq.stroke = some (stroke .advance) ∧ s.ring[(stroke .advance).index].order.kind = .bore ∧ boreOrder.boreMode = some .locked ∧
      (stroke .advance).closed = false ∧ (stroke .advance).met = false ∧ s.axes.governor = .free ∧ (stroke .rampUp).phase = .rampUp) ∧
    (let w : LimitSet := { LimitSet.unknown with wTotal := some 1470, holdback := some 1270 };
      hangOrder.kind = .bore ∧ ({ deep.limits with downforce := some 200 } : Limits).downforce = some 200 ∧ w.wTotal = some 1470 ∧
      w.holdback = some 1270) := by
  exact ⟨⟨rfl, rfl, rfl, fun x (h : none = some x) => nomatch h⟩, by decide +kernel, by decide +kernel, by decide +kernel, by decide +kernel, by decide +kernel⟩

/-- A channel in each mode with its demand; a load at its cap and one step below it, against either motion; a fresh frame of each state with a
channel at its ceiling and above its half. -/
theorem witness_DemandsCapsCeilings :
    (∀ p ∈ ([(.hoist, .speed), (.hoist, .tension), (.crowd, .force), (.crowd, .position), (.rotary, .speed), (.rotary, .creep)] : List (Axis × ChannelMode)),
      let s : State := { moding p.1 p.2 deep with mail := { deep.mail with unionAxes := [0] } };
      s.mail.unionAxes = 0 :: [] ∧ (s.axes.get p.1).mode = p.2 ∧ s.seq.stroke = none ∧ (s.axes.get p.1).overload = none ∧
      0 < fig s.profile.machine.winchMax ∧ 0 < fig s.profile.machine.wMax ∧ 0 < fig s.profile.machine.cMax ∧ 0 < fig s.profile.machine.pMax ∧
      0 < fig s.profile.machine.speedLow ∧ 0 < fig s.profile.machine.speedHigh) ∧ deep.Steady ∧
    (∀ v ∈ ([100, -100] : List Int),
      let s : State := { spinning v v none false with kelly := { deep.kelly with pressA := some 0, pressB := some 0 } };
      let s : State := { s with axes := { s.axes with limits := { s.axes.limits with torque := 225 }, rotary := { s.axes.rotary with cap := some 225 } } };
      s.axes.rotary.mode = .speed ∧ 0 < s.rotaryMax ∧ s.axes.rotary.cap = some s.axes.limits.torque ∧
      (after (.rotaryPressureSample .a 117) s).kelly.torque = some 225 ∧ (after (.rotaryPressureSample .a 116) s).kelly.torque = some 223 ∧
      (after (.rotaryPressureSample .b 117) s).kelly.torque = some (-225)) ∧
    (let s : State := { deep with axes := { deep.axes with crowd := { deep.axes.crowd with mode := .position, setpoint := 10 * fine, cap := some 150 } } };
      s.axes.crowd.mode = .position ∧ s.axes.crowd.cap = some 150 ∧
      (let u : State := { s with kelly := { deep.kelly with pressRod := some 0 } };
        (after (.crowdPressureSample .cap 60) u).kelly.crowdForce = some 150 ∧ (after (.crowdPressureSample .cap 59) u).kelly.crowdForce = some 148)) ∧
    ((deep.links.get .stability).up = true ∧ [Stability.normal, .restricted, .stop][(1 : Byte).toNat]? = some .restricted ∧
      [Stability.normal, .restricted, .stop][(0 : Byte).toNat]? = some .normal ∧ deep.axes.keptTension = none ∧
      holds deep.axes.union .hoistUp = false ∧ holds deep.axes.union .hoistDown = false ∧ deep.axes.gear = some .low ∧
      (spinning 200 200 none false).axes.limits.torque ≠ 0 ∧ (spinning 200 200 none false).axes.keptTension = none) ∧
    (∀ r, deep.env.record = some r → r.sequence ≠ (42 : Byte).toNat) := by
  refine ⟨by decide +kernel, deep_steady.1, by decide +kernel, by decide +kernel, by decide +kernel, ?_⟩
  rintro r ⟨⟩
  decide

/-- Each motion direction alone; a hoist in TENSION; a stroke whose own direction enters, and one it leaves alone. -/
theorem witness_UnionTaken :
    (∀ u ∈ ([1, 2, 4, 8, 16, 32] : List Mask), ({ deep with mail := { deep.mail with unionAxes := [u] } } : State).mail.unionAxes = u :: []) ∧
    ((1 : Mask) &&& 1 ≠ 0 ∧ (2 : Mask) &&& 2 ≠ 0 ∧ (4 : Mask) &&& 4 ≠ 0 ∧ (8 : Mask) &&& 8 ≠ 0 ∧ (16 : Mask) &&& 48 ≠ 0 ∧ (32 : Mask) &&& 48 ≠ 0 ∧
      0 ≤ deep.axes.limits.pull ∧ 0 ≤ deep.rotaryMax ∧ 0 ≤ fig deep.profile.machine.winchMax) ∧
    (let s : State := { moding .hoist .tension deep with axes := { (moding .hoist .tension deep).axes with limits := { LimitSet.unknown with hoistLine := 50 } } };
      s.axes.hoist.mode = .tension ∧ s.axes.keptTension = none ∧ 50 ≤ s.axes.limits.hoistLine) ∧
    (let s : State := { flying descendOrder (stroke .run) deep with mail := { deep.mail with unionSeq := [8192] } };
      s.mail.unionSeq = 8192 :: [] ∧ s.seq.stroke = some (stroke .run) ∧ s.ring[(stroke .run).index].order.ownDirection = some .descend ∧
      holds 8192 .descend = true ∧ holds 16384 .descend = false ∧ hoistOrder.ownDirection = none) := by
  exact ⟨fun u _ => rfl, by decide +kernel, by decide +kernel, by decide +kernel⟩

/-- A stroke permitted and one not; LOST with the latch CLEAR and SET; leaving, entering and neither leaving nor entering CONFIG; LOCKOUT
taken from PARKED, from OPERATING with the cut still waiting, in CONFIG, and twice. -/
theorem witness_ModeChangesTaken :
    (let s : State := { flying descendOrder (stroke .run) deep with mail := { deep.mail with modeSeq := [⟨.operating, .surveyRequired⟩] } };
      s.mail.modeSeq = ⟨.operating, .surveyRequired⟩ :: [] ∧ s.seq.stroke = some (stroke .run) ∧
      ¬ (UnitMode.surveyRequired = .operating ∨ (UnitMode.surveyRequired = .surveyRequired ∧
        (descendOrder.kind = .survey ∨ descendOrder.kind = .sled ∨ descendOrder.kind = .dwell))) ∧ dwellOrder.kind = .dwell) ∧
    (let s : State := { deep with env := { deep.env with freshness := .lost }, mail := { deep.mail with modeEnv := [⟨.parked, .operating⟩] } };
      s.mail.modeEnv = ⟨.parked, .operating⟩ :: [] ∧ s.env.freshness = .lost ∧ s.env.lossLatch = false ∧ deep.env.freshness ≠ .lost) ∧
    (∀ c ∈ ([⟨.config, .surveyRequired⟩, ⟨.surveyRequired, .config⟩, ⟨.operating, .parked⟩] : List ModeChange),
      ({ deep with mail := { deep.mail with modeSup := [c], modeLines := [c] } } : State).mail.modeSup = c :: []) ∧
    (let s : State := { deep with mail := { deep.mail with lockout := 1 }, ctl := ⟨.parked, some ⟨.stow, ⟨none, none, none⟩⟩, .idle, false⟩ };
      s.mail.lockout = 0 + 1 ∧ s.ctl.mode ≠ .lockout ∧ s.ctl.mode ≠ .config ∧ s.ctl.mode = .parked ∧ s.mail.orders = []) ∧
    (let s : State := { deep with mail := { deep.mail with lockout := 1, orders := [.ended, .cut] } };
      s.mail.lockout = 0 + 1 ∧ s.ctl.mode = .operating ∧ s.mail.orders.getLast? = some .cut) ∧
    (let s : State := { State.reset with mail := { Mail.empty with lockout := 1 } }; s.mail.lockout = 0 + 1 ∧ s.ctl.mode = .config) ∧
    (let s : State := { deep with mail := { deep.mail with lockout := 1 }, ctl := ⟨.lockout, none, .idle, false⟩ };
      s.mail.lockout = 0 + 1 ∧ s.ctl.mode = .lockout) := by decide +kernel

/-! ### Witnesses: faults and reactions -/

/-- A raise waits. -/
def raising (v : FaultVector) (s : State) : State := { s with mail := { s.mail with raises := [⟨v, some 45500, false⟩] } }



/-- A HALT resolved by its descriptor, an ANNOUNCE, and a vector at the table's length and one of an UNCOMMITTED table, whose descriptors are
not used; with and without a mode that serves. Each state a raise can meet, with its context. -/
theorem witness_RaiseTaken :
    ((raising .sledSensor deep).mail.raises = ⟨.sledSensor, some 45500, false⟩ :: [] ∧ (raising .sledSensor deep).Steady ∧
    deep.faults.state = .clear ∧ deep.faults.Resolves .sledSensor .sledSensor .halt 7 ∧
    deep.faults.Resolves .noAdvance .noAdvance .announce 7 ∧
    ({ deep.faults with length := 2 } : Faults).Resolves .sledSensor .reactionMissing .halt 7 ∧ deep.ctl.mode ≠ .config ∧
    ({ deep.faults with committed := false } : Faults).Resolves .sledSensor .reactionMissing .halt 7 ∧ State.reset.ctl.mode = .config) ∧
    (∀ st ∈ [ControllerState.reacting, .compound, .cut, .lockout], (serving st deep).faults.state = st ∧
      (serving st deep).faults.context = some context) ∧
    (raising .sledSensor (serving .reacting deep)).mail.raises = ⟨.sledSensor, some 45500, false⟩ :: [] ∧
    (raising .sledSensor (serving .compound deep)).Steady ∧ deep.ctl.mode ≠ .config ∧
    (serving .compound deep).faults.Resolves .sledSensor .sledSensor .halt 7 ∧
    (serving .compound deep).faults.Resolves .noAdvance .noAdvance .announce 7 ∧
    ({ (serving .reacting deep).faults with descriptors := deep.faults.descriptors.set 2 ⟨true, .cut, 7⟩ } : Faults).Resolves
      .sledSensor .sledSensor .cut 7 ∧
    ((serving .compound (still deep)).faults.state = .compound ∧
      ∀ x, ((serving .compound (still deep)).axes.get x).atRest = true ∧ ((serving .compound (still deep)).axes.get x).setpoint = 0) ∧
    ∀ r ∈ (raising .sledSensor (serving .compound (still deep))).mail.raises, r.decision = false := by
  refine ⟨?_, ?_⟩
  · refine ⟨rfl, ⟨rfl, rfl, rfl, fun x (h : none = some x) => nomatch h⟩, rfl, ⟨by decide +kernel, fun h => absurd (h 2 rfl) (by decide +kernel)⟩,
      ⟨by decide +kernel, fun h => absurd (h 13 rfl) (by decide +kernel)⟩, ⟨?_, fun _ => ⟨rfl, rfl, rfl⟩⟩, by decide +kernel,
      ⟨fun _ h => absurd h (by decide +kernel), fun _ => ⟨rfl, rfl, rfl⟩⟩, rfl⟩
    decide +kernel
  · refine ⟨by decide +kernel, rfl, ⟨rfl, rfl, rfl, fun x (h : none = some x) => nomatch h⟩, by decide +kernel,
      ⟨by decide +kernel, fun h => absurd (h 2 rfl) (by decide +kernel)⟩, ⟨by decide +kernel, fun h => absurd (h 13 rfl) (by decide +kernel)⟩,
      ⟨by decide +kernel, fun h => absurd (h 2 rfl) (by decide +kernel)⟩, ⟨rfl, fun x => by cases x <;> exact ⟨rfl, rfl⟩⟩, by decide +kernel⟩



/-- A HOLD and a HALT at the sequencer, in each state without a stroke and with a DWELL in flight. A reaction with every axis at rest; one with
an axis moving; one whose interrupted rotation is undecided. -/
theorem witness_ReactionMetAndEnded :
    ((∀ st : SeqState, ∀ m : ReactionMsg,
      let s : State := { deep with seq := ⟨st, 0, none⟩, mail := { deep.mail with reactions := [m] } };
      s.mail.reactions = m :: [] ∧ s.Steady ∧ s.seq.stroke = none ∧ s.seq.state = st) ∧
    (flying dwellOrder (stroke .wait) deep).Steady ∧ (flying dwellOrder (stroke .wait) deep).seq.stroke = some (stroke .wait)) ∧
    (let s := serving .reacting (still deep);
      s.faults.context = some context ∧ s.faults.state = .reacting ∧ (∀ x, (s.axes.get x).atRest = true ∧ (s.axes.get x).setpoint = 0) ∧
      (¬ ∃ r, s.kelly.rotation = some r ∧ r.interrupted = true ∧ r.stage ≠ .resting) ∧ ¬ ∃ r ∈ s.mail.raises, r.decision = true) ∧
    ¬ (deep.faults.state = .reacting ∨ deep.faults.state = .compound) ∧ (serving .reacting deep).axes.hoist.atRest = false ∧
    ({ seating with interrupted := true } : Rotation).stage ≠ .resting := by
  refine ⟨?_, ?_⟩
  · exact ⟨fun st m => ⟨rfl, ⟨rfl, rfl, rfl, fun x (h : none = some x) => nomatch h⟩, rfl, rfl⟩, bore_steady dwellOrder .wait (by decide), rfl⟩
  · refine ⟨⟨rfl, rfl, fun x => by cases x <;> exact ⟨rfl, rfl⟩, ?_, by decide +kernel⟩, by decide +kernel, rfl, by decide +kernel⟩
    rintro ⟨r, h, _⟩
    exact absurd (show (none : Option Rotation) = some r from h) nofun

/-- Each order at the head, under each governor. -/
theorem witness_ChannelsTakeOrders :
    (∀ o : ChannelOrder, ({ deep with mail := { deep.mail with orders := [o] } } : State).mail.orders = o :: []) ∧
    (∀ g : Governor, ∀ o : ChannelOrder,
      ({ deep with axes := { deep.axes with governor := g }, mail := { deep.mail with orders := [o] } } : State).Steady) ∧
    ((moding .hoist .tension deep).axes.hoist.mode = .tension ∧ 0 ≤ fig deep.profile.machine.winchMax) ∧
    (let s : State := { deep with ctl := ⟨.parked, some ⟨.latch, ⟨none, none, none⟩⟩, .idle, true⟩ };
      s.ctl.latchRequest = true ∧ s.ctl.mode = .parked) ∧ deep.ctl.latchRequest = false := by
  exact ⟨fun o => rfl, fun g o => ⟨rfl, rfl, rfl, fun x (h : none = some x) => nomatch h⟩, by decide +kernel, by decide +kernel, rfl⟩

/-! ### Witnesses: timers -/

/-- A channel that has come to its request, and one whose brake is due; a BORE in RAMP_UP at its speed; a stall due under a torque limit and
under none, the second and the third; the no-advance window full and a millisecond short. -/
theorem witness_ChannelTimers :
    deep.Steady ∧
    ((deep.axes.get .crowd).reached = false ∧
      ({ deep with axes := { deep.axes with crowd := { deep.axes.crowd with reached := true, brake := some 0 } } } : State).axes.crowd.reached = true ∧
      ({ deep with axes := { deep.axes with crowd := { deep.axes.crowd with brake := some 0 } } } : State).axes.crowd.brake = some 0 ∧
      deep.axes.keptTension = none) ∧
    (flying boreOrder (stroke .rampUp) deep).Steady ∧
    (let s : State := { flying boreOrder (stroke .rampUp) deep with axes := { deep.axes with
        limits := { LimitSet.unknown with torque := 4300 }
        rotary := { deep.axes.rotary with mode := .speed, reached := true, request := 100 * fine, setpoint := 100 * fine } } };
      s.seq.stroke = some (stroke .rampUp) ∧ s.axes.rotary.reached = true ∧ (stroke .rampUp).inMotion = true ∧ (stroke .rampUp).inhibited = false ∧
      0 < s.axes.rotary.setpoint ∧ s.axes.rotary.setpoint = s.goal .rotary ∧ s.ring[(stroke .rampUp).index].order.isLocked = true ∧
      s.axes.governor = .free) ∧
    (let s : State := { flying boreOrder (stroke .advance) deep with axes := { deep.axes with stallTimer := some 0 } };
      s.axes.stallTimer = some 0 ∧ (stroke .advance).boring = true ∧ s.limits.set.torque = 0 ∧ (stroke .advance).figures.stallCount < 2 ∧
      s.axes.rotary.atRest = false ∧ s.sup.inFault .rotarySpeed = false) ∧
    ((latched 0).limits.set.torque ≠ 0 ∧ 2 ≤ ({ (stroke .advance).figures with stallCount := 2 } : Figures).stallCount) ∧
    (∀ n ∈ [119999, 120000], ({ deep with axes := { deep.axes with window := some ⟨some 45500, n⟩ } } : State).axes.window =
      some ⟨some 45500, n⟩) := by
  exact ⟨deep_steady.1, by decide +kernel, bore_steady boreOrder .rampUp (by decide), by decide +kernel, by decide +kernel, by decide +kernel,
    fun n _ => rfl⟩

/-- An ENGAGE in its settle wait with the release settle time run out, and every check of it made or failed. -/
def waiting (m : Kelly) : State := { flying { Order.blank .engage 1 with planLength := some 1, pairs := #v[⟨some 0, some 0⟩, ⟨none, none⟩, ⟨none, none⟩, ⟨none, none⟩, ⟨none, none⟩] }
  (stroke .settleWait) hanging with kelly := { m with releaseSettle := some 0 } }

/-- The kelly free but for interface 0, with every other interface between its stations. -/
def betweenMap : Vector IfModel 5 :=
  #v[⟨.aligned 0, some 500⟩, ⟨.released, some 2000⟩, ⟨.released, some 2000⟩, ⟨.released, some 2000⟩, ⟨.unknown, none⟩]

theorem witness_ModelTimers :
    ({ deep with kelly := { deep.kelly with seatSettle := some 0 } } : State).kelly.seatSettle = some 0 ∧ deep.kelly.seatSettle ≠ some 0 ∧
    ({ deep with kelly := { deep.kelly with releaseSettle := some 0 } } : State).kelly.releaseSettle = some 0 ∧
    (let s := waiting hanging.kelly;
      s.seq.stroke = some (stroke .settleWait) ∧ s.kelly.releaseSettle = some 0 ∧ (stroke .settleWait).closed = false ∧
      (stroke .settleWait).met = false ∧ (stroke .settleWait).outcome = none ∧ (stroke .settleWait).endState = .running) ∧
    ((waiting (lost hanging).kelly).kelly.known = false ∧ (waiting hanging.kelly).kelly.tob = false) ∧
    (let s := waiting { deep.kelly with tob := true }; s.kelly.tob = true ∧ s.planAligned s.ring[(0 : Fin 32)].order = false) ∧
    (let s := waiting { hanging.kelly with tob := true };
      s.planAligned s.ring[(0 : Fin 32)].order = true ∧ s.planOnly s.ring[(0 : Fin 32)].order = false) ∧
    (let s := waiting { hanging.kelly with tob := true, interfaces := betweenMap };
      s.kelly.known = true ∧ s.planAligned s.ring[(0 : Fin 32)].order = true ∧ s.planOnly s.ring[(0 : Fin 32)].order = true ∧
      (stroke .settleWait).inhibited = false ∧ s.ctl.reseat = .idle ∧ s.axes.relief = none) ∧
    (let s : State := { flying boreOrder { stroke .releaseDwell with releaseDwell := some 0 } deep with kelly := { deep.kelly with tob := true } };
      s.seq.stroke = some { stroke .releaseDwell with releaseDwell := some 0 } ∧ s.kelly.tob = true ∧ deep.kelly.tob = false) := by
  exact ⟨rfl, by decide +kernel, rfl, by decide +kernel, by decide +kernel, by decide +kernel, by decide +kernel, by decide +kernel, by decide +kernel⟩

/-- Every timer of a stroke due, in a stroke in its motion phase and in one past it. -/
theorem witness_StrokeTimers :
    (let x := { stroke .turnCw with sledWatch := some 0, rotationLimit := some 0, dwell := some 0, unseatWatch := some 0, stuckWatch := some 0 };
      let s := flying (Order.blank .spin 1) x deep;
      s.seq.stroke = some x ∧ x.inMotion = true ∧ x.outcome = none ∧ s.ring[x.index].order.kind = .spin ∧ s.kelly.rotation = none ∧
      s.ctl.reseat = .idle ∧ s.axes.relief = none ∧ s.axes.governor = .free ∧ s.ctl.latchRequest = false) ∧
    (let x := { stroke .wait with dwell := some 0 };
      (flying dwellOrder x deep).seq.stroke = some x ∧ x.inMotion = true ∧ (flying dwellOrder x deep).ring[x.index].order.kind = .dwell) ∧
    ({ stroke .turnCw with outcome := some .timeout, rotationLimit := some 0 } : Stroke).inMotion = false := by decide +kernel

/-! ### Witnesses: the order rule and the invariants -/

/-- The free kelly of the case lies within its travels; an extension and a retraction past all of it; interface 0 brought
to either edge of a capture window and past it. -/
theorem witness_OrderRule :
    State.PositionsInRange rig hanging.kelly ∧ hanging.kelly.pos 0 = 500 ∧ (hanging.kelly.share rig rig.members 12001).pos 3 = 12500 ∧
    (∀ p ∈ ([(40, .aligned 0), (41, .released), (3959, .released), (3960, .aligned 1)] : List (Int × IfState)),
      (hanging.kelly.share rig rig.members p.1).pos 0 = 500 + p.1 ∧ (hanging.kelly.share rig rig.members p.1).st 0 = p.2) ∧
    (hanging.kelly.share rig rig.members (-34501)).pos 0 = 0 := by
  unfold State.PositionsInRange
  decide +kernel

/-- Every figure of the rig lies in its write range. -/
theorem rig_inRange : rig.FiguresInRange := by
  have h : ∀ f : Field, ((profileRange f).all fun r => (rig.value f).all fun v => inRange r v) = true := by
    intro f
    cases f with
    | machine k => revert k; decide +kernel
    | kelly k => revert k; decide +kernel
    | sectionRec i k => revert i k; decide +kernel
    | iface i k => revert i k; decide +kernel
    | stationCount i => revert i; decide +kernel
    | station i j => revert i j; decide +kernel
    | tool k => revert k; decide +kernel
    | _ => rfl
  intro f r v hr hv
  simpa [hr, hv, inRange] using h f

/-- A step from the 45.5 m case, which meets every invariant. -/
theorem witness_StepKeepsInvariants :
    deep.profile.FiguresInRange ∧ deep.ClassesAtMinimum ∧ deep.DebtInRange ∧ deep.BuffersSound ∧ deep.SequencerSound ∧
    (flying dwellOrder (stroke .wait) deep).SequencerSound ∧
    step { deep with pending := [.resetInputChange false] } = .next { deep with resetLine := some false } := by
  refine ⟨rig_inRange, ?_, ⟨by decide, by decide, by decide, by decide⟩, fun l => by cases l <;> exact ⟨by decide, fun h => nomatch h⟩, ⟨⟨fun h => (nomatch h), fun h => (nomatch h)⟩, fun x (h : none = some x) => nomatch h⟩,
    ⟨⟨fun _ => rfl, fun _ => rfl⟩, ?_⟩, rfl⟩
  · unfold State.ClassesAtMinimum; decide +kernel
  · rintro x ⟨⟩; exact ⟨rfl, by decide +kernel⟩

/-- A step with a DWELL in flight, which keeps the sequencer sound. -/
theorem witness_StepKeepsSequencerSound :
    (flying dwellOrder (stroke .wait) deep).SequencerSound ∧
    step { flying dwellOrder (stroke .wait) deep with pending := [.resetInputChange false] } =
      .next { flying dwellOrder (stroke .wait) deep with resetLine := some false } :=
  ⟨witness_StepKeepsInvariants.2.2.2.2.2.1, rfl⟩

/-- NEST (R170): at the nest position less 50 mm the model becomes known and the unit OPERATING, at 101 mm less SURVEY_FAILED is raised with its
depth absent. -/
theorem test_nest :
    (after (.rotarySpeedSample 0) (lifted 7450)).ctl.mode = .operating ∧
    (after (.rotarySpeedSample 0) (lifted 7450)).toolDepth = some 13450 ∧
    (after (.rotarySpeedSample 0) (lifted 7450)).kelly.ropeDepth = some (-3000) ∧
    (after (.rotarySpeedSample 0) (lifted 7399)).ctl.mode = .surveyRequired ∧
    (after (.rotarySpeedSample 0) (lifted 7399)).mail.raises = [⟨.surveyFailed, none, false⟩] := by decide +kernel

/-- RAISE that begins with the top stop ON: the hoist in SPEED with request zero, its brake released (R122, R169). -/
theorem test_raise_at_top :
    let s := surveying { stroke .unseat with unseatPassed := true } deep
    let t := after (.rotarySpeedSample 0) { s with axes := { s.axes with topState := some true } }
    s.axes.hoist.mode = .braked ∧ s.axes.hoist.brakeApplied = true ∧ t.axes.hoist.mode = .speed ∧ t.axes.hoist.request = 0 ∧
      t.axes.hoist.brakeApplied = false ∧ t.seq.stroke.map Stroke.phase = some .raise := by decide +kernel

/-! ### Witnesses: the readouts, the taking of an entry, and the further clauses -/

/-- The committed profile of n = 4 at its boundary interfaces, and the uncommitted one; a channel in each mode; each gear and shift; a
returned entry with no reason, a fault and a named reason, with and without figures; a context and none; an interface in each state. -/
theorem witness_ReadsAndRefusals_readouts :
    (deep.profile.committed = true ∧ deep.profile.kelly.n = some (((3 : Fin 5).val : Int) + 1) ∧ deep.profile.count = 4 ∧ deep.driveDepth = some (-4000) ∧
      deep.kelly.known = true ∧ deep.kelly.ropeDepth = some 29000 ∧ deep.read (.kellyReadout 0x21) = some 15000 ∧
      deep.read (.model 0x20) = some 45500 ∧ deep.read (.model 0x1B) = some 44000 ∧ deep.read (.model 0x1C) = none) ∧
    (config.profile.committed = false ∧ config.read (.kellyReadout 0x21) = none ∧ State.reset.kelly.sled = none ∧
      State.reset.kelly.ropeDepth = none ∧ (lost deep).kelly.known = false) ∧
    (∀ st ∈ [IfState.unknown, .released, .aligned 7, .seating 7, .engaged 7, .unseating 7],
      ({ deep with kelly := { deep.kelly with interfaces := lockedMap.set 3 ⟨st, some 0⟩ } } : State).kelly.st 3 = st) ∧
    (∀ p ∈ ([(.hoist, .braked), (.hoist, .speed), (.hoist, .tension), (.crowd, .force), (.crowd, .position), (.rotary, .creep)] :
        List (Axis × ChannelMode)), ((moding p.1 p.2 deep).axes.get p.1).mode = p.2) ∧
    (∀ g ∈ [none, some Gear.low, some .high], ∀ h ∈ [Shift.idle, .pending .low, .shifting .high],
      (geared g h none).axes.gear = g ∧ (geared g h none).axes.shift = h) ∧
    (∀ r ∈ [none, some (Reason.fault .gearShift), some .mode, some .park], ∀ f ∈ [none, some (Figures.fresh (some 45500) false)],
      ({ deep with ring := deep.ring.set 31 ⟨.console, dwellOrder, some ⟨.done, r, f⟩⟩ } : State).ring[(31 : Fin 32)].completion =
        some ⟨.done, r, f⟩) ∧
    ((∀ r ∈ [Reason.mode, .park], r ∈ reasonNumbers.map Prod.fst) ∧ deep.ring[(31 : Fin 32)].completion = none) ∧
    (deep.faults.context = none ∧ (serving .reacting deep).faults.context = some context) := by decide +kernel

/-- The station count and the first and the last station of the last interface: outside CONFIG, and COMMITTED in CONFIG. -/
theorem witness_ProfileWritten_state :
    (∀ q ∈ [ask 1 0x1204 4 8, ask 1 0x1204 0x10 0, ask 1 0x1204 0x17 0], (asking .recorder q deep).waits .recorder q [] ∧ q.kind = 1) ∧
    ((ask 1 0x1204 4 8).field = some (.stationCount 4) ∧ (ask 1 0x1204 0x10 0).field = some (.station 4 0) ∧
      (ask 1 0x1204 0x17 0).field = some (.station 4 7)) ∧
    deep.ctl.mode ≠ .config ∧
    (let s : State := { State.reset with profile := rig }; s.ctl.mode = .config ∧ s.profile.committed = true) := by
  refine ⟨fun q h => ⟨⟨rfl, rfl⟩, ?_⟩, by decide +kernel⟩
  revert q
  decide

/-- A PARK that fails in SURVEY_REQUIRED, its latch request still SET; a DESCEND barred; an ENGAGE off the bottom, in and out of the settle
time. -/
theorem witness_StartAndResume_fails :
    (let s : State := { handed latchOrder (lost deep) with ctl := ⟨.surveyRequired, none, .idle, true⟩, seq := ⟨.held, 0, none⟩ };
      s.Fails latchOrder .mode ∧ s.ctl.latchRequest = true ∧ latchOrder.kind = .park ∧ s.ring[s.seq.next].owner = .unit) ∧
    ({ deep with masks := ⟨8192, 0, 0⟩ } : State).Fails descendOrder .inhibited ∧ hanging.Fails (plain .engage) .notOnBottom ∧
    ({ hanging with kelly := { hanging.kelly with releaseSettle := some 1 } } : State).MayBegin (plain .engage) := by
  simp only [← State.startReason_some_iff, ← State.startReason_none_iff]
  decide +kernel

/-- A state with its sled at a position. -/
def sledAt (z : Int) (s : State) : State := { s with kelly := { s.kelly with sled := some z } }

/-- Every kind that may begin; an ending that holds already: TOB and the target reached exactly, the top stop ON and the target of a HOIST
reached exactly, the sled 5 mm from its target, no advance left for a LOCKED and for a HANGING BORE; a SURVEY with the model known and
UNKNOWN. -/
theorem witness_StrokeBegins_endings :
    (∀ p ∈ ([(dwellOrder, deep), (descendOrder, hanging), (hoistOrder, hanging), (boreOrder, deep), (hangOrder, swinging),
        (spinOrder, perched), (stowOrder, perched), (latchOrder, grounded deep), (plain .release, grounded deep),
        ({ plain .sled with sledTarget := some 5005, sledSpeed := some 200 }, hanging)] : List (Order × State)), p.2.MayBegin p.1) ∧
    ((grounded hanging).MayBegin descendOrder ∧ (grounded hanging).kelly.tob = true ∧
      hanging.MayBegin { descendOrder with targetDepth := some 45500 } ∧ hanging.toolDepth = some 45500) ∧
    (let s : State := { hanging with axes := { hanging.axes with topState := some true } };
      s.MayBegin hoistOrder ∧ s.axes.topState = some true ∧ hanging.MayBegin { hoistOrder with targetDepth := some 45500 } ∧
      hanging.axes.topState ≠ some true ∧ hoistOrder.toTop ≠ some true) ∧
    (max hanging.sledLow (min hanging.sledHigh (fig (some 5005))) = 5005 ∧ magnitude (5005 - fig hanging.kelly.sled) ≤ 5) ∧
    (let s := sledAt 8000 deep;
      s.MayBegin boreOrder ∧ fig s.profile.machine.sledTravel - fig s.kelly.sled = 0 ∧ boreOrder.boreMode = some .locked) ∧
    (∀ known ∈ [false, true], let s : State := { deep with
        ctl := ⟨if known then .operating else .surveyRequired, none, .idle, false⟩
        kelly := { deep.kelly with tension := some 1503, known := known }
        limits := { deep.limits with dry := ⟨deep.limits.dry.sections, none, some 1670⟩ } };
      s.MayBegin (plain .survey) ∧ s.kelly.known = known) := by
  simp only [← State.startReason_none_iff]
  decide +kernel

/-- The free kelly of the case at the far end of every travel: no extension is left. -/
def spent : State := loaded 1470 2000 { deep with kelly := { deep.kelly with interfaces :=
  #v[⟨.released, some 9000⟩, ⟨.released, some 12500⟩, ⟨.released, some 12500⟩, ⟨.released, some 12500⟩, ⟨.unknown, none⟩] } }

/-- A HANGING BORE with no advance left. -/
theorem witness_StrokeBegins_spent : spent.MayBegin hangOrder ∧ hangOrder.boreMode = some .hanging ∧ spent.AllowanceIs 0 ∧
    min (fig hangOrder.advance) (0 : Int) = 0 := by
  refine ⟨(spent.startReason_none_iff _).1 (by decide +kernel), rfl, .inr ⟨fun k hk e h => ?_, by decide +kernel⟩, by decide +kernel⟩
  rw [State.windowAhead_iff] at h
  obtain ⟨j, h, -⟩ := h
  revert hk j
  revert k
  decide +kernel

/-- A sequencer SUSPENDED at the last index, its entry complete: a DESCEND that fails, one that passes. -/
theorem witness_HandoverDemand_takes :
    ∀ p ∈ ([(deep, some Reason.chain), (hanging, none)] : List (State × Option Reason)),
      let s : State := { p.1 with ring := deep.ring.set 31 ⟨.console, descendOrder, none⟩, seq := ⟨.suspended, 31, none⟩ };
      let x := s.ring[(31 : Fin 32)];
      x.owner = .console ∧ x.order.kind ≠ .none ∧ (∀ f ∈ x.order.required, x.order.value f.2 ≠ none) ∧ s.seq.state = .suspended ∧
      s.seq.next = 31 ∧ s.kelly.rotation = none ∧ s.ctl.reseat = .idle ∧ s.axes.relief = none ∧ s.axes.governor = .free ∧
      s.startReason descendOrder = p.2 := by decide +kernel

/-- The next entry after a stroke that ends RUNNING: a DESCEND that fails its checks, and one that begins; an aborted unseating whose
UNSEAT_FAILED waits, a downforce request, and a shift not begun and one begun. -/
theorem witness_StrokeCompletes_takes :
    (∀ p ∈ ([(deep, some Reason.chain), (hanging, none)] : List (State × Option Reason)), ∀ h ∈ [Shift.pending .high, .shifting .high],
      let x := ended .done .running;
      let s : State := { flying dwellOrder x (still p.1) with
        ring := (deep.ring.set 0 ⟨.unit, dwellOrder, none⟩).set 1 ⟨.unit, descendOrder, none⟩
        limits := { deep.limits with downforce := some 200 } };
      let s : State := { s with axes := { s.axes with shift := h } };
      s.seq.stroke = some x ∧ x.outcome = some .done ∧ x.closed = true ∧ x.endsIn = .running ∧ s.seq.state = .running ∧
      s.ring[(0 : Fin 32)].order.kind ≠ .park ∧ s.ring[(0 : Fin 32) + 1].owner = .unit ∧ s.limits.downforce = some 200 ∧
      s.axes.shift = h ∧ s.startReason descendOrder = p.2 ∧ (s.axes.get .hoist).atRest = true) ∧
    (let s : State := { flying (plain .release) (ended .aborted .stopped) (still deep) with kelly := { deep.kelly with unseatFailedDue := true } };
      s.kelly.unseatFailedDue = true ∧ (ended .aborted .stopped).endsIn ≠ .running ∧ deep.kelly.unseatFailedDue = false) := by
  decide +kernel

/-- Interface 0 brought a millimetre past 0 and to its bound exactly, the others sharing the rest; interface 0 SEATING and UNSEATING in a
rotation, on a sample that leaves the model known; nothing left to share, the unplaced length then 100 mm and 101 mm. -/
theorem witness_SledSample_shares :
    (hanging.Quiet ∧ hanging.ctl.mode ≠ .parked ∧ hanging.kelly.sled = some 5000 ∧ hanging.unplaced = some 0 ∧ hanging.toolDepth = some 45500) ∧
    (hanging.chainEngaged = false ∧ (0 : Fin 5).val = hanging.engagedRun ∧ (hanging.kelly.st 0).isReleased = true ∧
      0 ≤ hanging.profile.travel 0 ∧ hanging.kelly.pos 0 - ((5501 : Int) - 5000) = -1 ∧
      (0 : Int) ≤ 5501 ∧ (5501 : Int) ≤ fig hanging.profile.machine.sledTravel) ∧
    (∀ r ∈ [seating, unseating],
      let s := rotating r (stroke .advance) 139;
      s.chainEngaged = false ∧ (0 : Fin 5).val = s.engagedRun ∧ (s.kelly.st 0 = .seating 0 ∨ s.kelly.st 0 = .unseating 0) ∧
      s.kelly.sled = some 5000 ∧ s.unplaced.isSome = true ∧ (after (.sledPositionSample 5001) s).kelly.known = true) ∧
    (let s : State := { deep with kelly := { deep.kelly with interfaces := Vector.replicate 5 ⟨.released, some 0⟩, ropeDepth := some (-5500) } };
      s.unplaced = some 0 ∧ s.kelly.latch = false ∧ (after (.sledPositionSample 5100) s).unplaced = some (-100) ∧
      (after (.sledPositionSample 5101) s).unplaced = some (-101)) ∧
    ∀ r ∈ [seating, unseating], (rotating r (stroke .advance) 139).NoNest := by
  refine ⟨⟨deep_quiet.2.1, by decide +kernel⟩, by decide +kernel, by decide +kernel, by decide +kernel, ?_⟩
  rintro r - x (h : some (stroke .advance) = some x)
  cases h
  exact .inr (.inr (by decide))

/-- A LATCH park with the measured torque absent. -/
theorem witness_UnparkDemand_torque :
    (let s : State := { latched 0 with kelly := { deep.kelly with torque := none } };
      s.ctl.mode = .parked ∧ s.faults.state = .clear ∧ s.ctl.reseat = .idle ∧
      s.ctl.park = some ⟨.latch, ⟨some 1000, some 5000, some 0⟩⟩ ∧ s.limits.set.torque ≠ 0 ∧ s.kelly.torque = none) := by decide +kernel

/-- The unseating rotation of a BORE's auto-release, and that of a RELEASE, the torque inside the window. -/
theorem witness_RotationClassified_bore :
    ∀ o ∈ [boreOrder, plain .release],
      let x := { stroke .unseating with outcome := some .target };
      let s : State := { flying o x (turning unseating (-140)) with kelly := (turning unseating (-140)).kelly };
      s.seq.stroke = some x ∧ s.kelly.rotation = some unseating ∧ s.ring[x.index].order.kind = o.kind ∧ x.phase = .unseating ∧
      unseating.turned s.kelly.angle = 140 ∧ (after (.rotaryPressureSample .a 117) s).kelly.torque = some 225 := by decide +kernel

/-- RAMP_DOWN with the rotary at rest at the sample: a LOCKED BORE, its crowd still set and at zero, its outcome each that goes on and one
that does not, without an auto-release, inhibited, with its crowd brought to zero; a HANGING BORE. -/
theorem witness_StrokeEndings_rampDown :
    (∀ o ∈ [Outcome.target, .sledEnd, .mark, .aborted], ∀ a ∈ [none, some false, some true], ∀ b ∈ [false, true], ∀ v ∈ ([0, 1836] : List Int),
      let x := { stroke .rampDown with outcome := some o, inhibited := b };
      let s := flying { boreOrder with autoRelease := a } x (crowding (v * fine) deep);
      s.seq.stroke = some x ∧ x.phase = .rampDown ∧ x.closed = false ∧ x.met = false ∧ x.outcome ≠ none ∧ s.kelly.rotation = none ∧
      s.ctl.reseat = .idle ∧ s.axes.relief = none ∧ s.ctl.mode ≠ .parked ∧ s.ring[x.index].order.isLocked = true ∧
      (after (.rotarySpeedSample 1) s).axes.crowd.setpoint = v * fine ∧ s.axes.governor = .free ∧ 50 ≤ s.axes.limits.hoistLine) ∧
    (let x := { stroke .rampDown with outcome := some .target, unloading := true };
      let s := still (flying { boreOrder with autoRelease := some true } x (crowding 0 deep));
      let s : State := { s with axes := { s.axes with crowd := { s.axes.crowd with reached := true } } };
      x.unloading = true ∧ s.axes.rotary.atRest = true ∧ s.axes.crowd.reached = true ∧ s.axes.crowd.setpoint = 0 ∧
      s.ring[x.index].order.autoRelease = some true) ∧
    (let s := flying hangOrder { stroke .rampDown with outcome := some .target } hanging; s.ring[(0 : Fin 32)].order.isHanging = true) := by
  decide +kernel

/-- A RAISE that the top stop has stopped: the rope at rest exactly below 5 mm in its time and at it, the nest tolerances of the rope depth
reached and passed, inhibited, the debt raised to 4, and an overrun below ON. -/
theorem witness_SurveyRuns_nest :
    (∀ b ∈ [false, true],
      let x := { stroke .raise with raiseStopping := true, inhibited := b };
      let s : State := { lifted 7500 with seq := ⟨.running, 0, some x⟩, axes := { (lifted 7500).axes with sinceRope := 10 } };
      s.seq.stroke = some x ∧ x.closed = false ∧ x.met = false ∧ s.ring[x.index].order.kind = .survey ∧ s.kelly.rotation = none ∧
      s.ctl.reseat = .idle ∧ s.axes.relief = none ∧ s.ctl.mode ≠ .parked ∧ s.kelly.known = false ∧ s.kelly.ropeBaseline = some 1000 ∧
      magnitude (1000 - 1000) * 1000 < 5 * ((max 1 s.axes.sinceRope : Nat) : Int) ∧
      ¬ magnitude (1001 - 1000) * 1000 < 5 * ((max 1 s.axes.sinceRope : Nat) : Int) ∧ s.driveDepth = some (-1500) ∧
      s.kelly.ropeDepth = some (-2900) ∧ magnitude (-2900 + (900 - 1000) - fig s.profile.machine.rTop) ≤ 200) ∧
    (let s : State := { lifted 7500 with axes := { (lifted 7500).axes with topState := some true, topCount := some 1101 } };
      s.ctl.mode ≠ .config ∧ s.axes.topLatch = false ∧ (1000 : Int) < 1101 - 100 ∧ ¬ (1001 : Int) < 1101 - 100) ∧
    (let m := (lifted 7500).kelly;
      (0 : Int) ≤ m.accumulator ∧ min 4 (({ m with accumulator := 11999, debt := 3 } : Kelly).debt + (11999 + 1) / 12000) = 4) ∧
    (∀ p ∈ ([(-3200, 7500), (-2800, 7500)] : List (Int × Int)), magnitude (p.1 - fig rig.machine.rTop) = 200 ∧ (lifted p.2).axes.hoist.atRest = true) := by
  decide +kernel

/-- An UNSEAT phase with the model UNKNOWN: a gear held and none, a STOP, the envelope fresh and stale. -/
theorem witness_LimitRecomputation_unseat :
    (let s : State := { lost deepDue with limits := { deep.limits with unseatPhase := true } };
      s.mail.triggers = .envelope :: [] ∧ s.kelly.known = false ∧ s.limits.unseatPhase = true ∧ s.axes.gear = some .low ∧
      s.env.freshness = .fresh ∧ s.env.record = some ⟨41, .normal, 2500, 3500, 4300⟩) ∧
    (({ lost deepDue with axes := { deep.axes with gear := none } } : State).axes.gear = none ∧
      ({ lost deepDue with env := { deep.env with freshness := .stale } } : State).env.freshness ≠ .fresh) ∧
    Smallest rig.count (fun k => fig rig.sections[k].torque) 4500 ∧
    (∃ r, (lost (limited .stop 0 none 300)).env.record = some r ∧ r.state = .stop) ∧
    ¬ ∃ r, (lost deepDue).env.record = some r ∧ r.state = .stop := by
  refine ⟨by decide +kernel, by decide +kernel, ⟨by decide +kernel, 3, by decide +kernel, by decide +kernel⟩, ⟨_, rfl, rfl⟩, ?_⟩
  rintro ⟨r, ⟨⟩, h⟩
  cases h

/-- A set with a holdback 50 and below it at the channels: a HANGING BORE in RAMP_UP and in ADVANCE, a LOCKED one; the hoist in TENSION, and
out of it with a kept request under an inhibit; the torque at 95 % of the limit exactly and below it, the rotary slower than 1.0 rpm and at
it. -/
theorem witness_LimitSetTaken_follows :
    (∀ o ∈ [hangOrder, boreOrder], ∀ p ∈ [Phase.rampUp, .advance], ∀ r ∈ ([49, 50] : List Int),
      let w : LimitSet := { LimitSet.unknown with hoistLine := 50, holdback := some r };
      let s : State := { moding .hoist .tension (flying o (stroke p) deep) with mail := { deep.mail with limitAxes := [w] } };
      s.mail.limitAxes = w :: [] ∧ 50 ≤ w.hoistLine ∧ s.axes.hoist.mode = .tension ∧ holds s.axes.union .hoistUp = false ∧
      holds s.axes.union .hoistDown = false ∧ s.axes.keptTension = none ∧ w.holdback = some r ∧ s.seq.stroke = some (stroke p) ∧
      s.ring[(stroke p).index].order.isHanging = decide (o = hangOrder) ∧ (stroke p).closed = false) ∧
    (let s : State := { moding .hoist .speed deep with axes := { (moding .hoist .speed deep).axes with union := 16, keptTension := some 60 } };
      s.axes.keptTension = some 60 ∧ holds s.axes.union .hoistUp = true ∧ s.axes.hoist.mode ≠ .tension) ∧
    (let w : LimitSet := { LimitSet.unknown with torque := 4300 };
      let s : State := { flying boreOrder (stroke .advance) (spinning 200 100 none false) with
        kelly := { deep.kelly with torque := some 4085, speed := some (-9) }, mail := { deep.mail with limitAxes := [w] } };
      (stroke .advance).boring = true ∧ 0 < (after .limitSetAtChannels s).axes.rotary.setpoint ∧ 95 * w.torque ≤ 100 * magnitude 4085 ∧
      ¬ 95 * w.torque ≤ 100 * magnitude 4084 ∧ magnitude (-9) < 10 ∧ ¬ magnitude 10 < 10 ∧
      (after .limitSetAtChannels s).axes.stallTimer = some 1500) := by decide +kernel

/-- Each of those states waits on nothing else. -/
theorem witness_LimitSetTaken_steady : ∀ o : Order, ∀ p ∈ [Phase.rampUp, .advance], (flying o (stroke p) deep).Steady :=
  fun o p h => bore_steady o p (by revert p; decide)

/-- A kept TENSION request, any union, and a latest rope tension or none, at the hoist line limit 5.0; each hoist direction held, and both
clear; the first and the last direction. -/
theorem witness_UnionTaken_returns :
    (∀ (k : Int) (u : Mask) (x : Option Int),
      let s : State := { moding .hoist .speed deep with
        axes := { (moding .hoist .speed deep).axes with keptTension := some k, union := 48, limits := { LimitSet.unknown with hoistLine := 50 } }
        kelly := { deep.kelly with tension := x }, mail := { deep.mail with unionAxes := [u] } };
      s.axes.keptTension = some k ∧ s.axes.hoist.mode ≠ .tension ∧ s.mail.unionAxes = u :: [] ∧ 50 ≤ s.axes.limits.hoistLine ∧
      s.kelly.tension = x ∧ s.kelly.rotation = none ∧ s.ctl.reseat = .idle ∧ s.axes.relief = none ∧ s.seq.stroke = none) ∧
    ((16 : Mask) &&& 48 ≠ 0 ∧ (32 : Mask) &&& 48 ≠ 0 ∧ (15 : Mask) &&& 48 = 0) ∧
    ((.crowdDown, 1) ∈ directionNumbers ∧ (.park, 16) ∈ directionNumbers) :=
  ⟨fun _ _ _ => ⟨rfl, nofun, rfl, Int.le_refl 50, rfl, rfl, rfl, rfl, rfl⟩, by decide, by decide⟩

/-- In CONFIG a raise in each state of the controller with its context; a HALT and an ANNOUNCE that meet a rotation in each stage and a
re-seat check, confirmed and not. -/
theorem witness_RaiseTaken_interrupts :
    (∀ st ∈ [ControllerState.clear, .reacting, .compound, .cut],
      let s : State := raising .sledSensor { serving st deep with ctl := ⟨.config, none, .idle, false⟩ };
      s.mail.raises = ⟨.sledSensor, some 45500, false⟩ :: [] ∧ s.ctl.mode = .config ∧ s.faults.state = st ∧ s.faults.context = some context ∧
      s.kelly.rotation = none ∧ s.ctl.reseat = .idle ∧ s.axes.relief = none ∧ s.seq.stroke = none) ∧
    (∀ v ∈ [FaultVector.sledSensor, .noAdvance], ∀ g ∈ [Stage.turning, .back, .resting], ∀ p ∈ [Phase.seating, .creepBack],
      let s := raising v (rotating { seating with stage := g } (stroke p) 139);
      s.mail.raises = ⟨v, some 45500, false⟩ :: [] ∧ s.kelly.rotation = some { seating with stage := g } ∧ s.ctl.reseat = .idle ∧
      s.seq.stroke = some (stroke p) ∧ (stroke p).phase ∈ [Phase.seating, .unseating, .creepBack] ∧ s.faults.state = .clear ∧
      s.axes.rotary.atRest = false ∧ s.ctl.mode ≠ .config) ∧
    (∀ b ∈ [false, true], let s := raising .sledSensor (parkedAt (.checking 225 b false) deep);
      s.ctl.reseat = .checking 225 b false ∧ s.kelly.rotation = none ∧ s.seq.stroke = none ∧ s.axes.rotary.atRest = false ∧
      s.faults.state = .clear) ∧
    deep.faults.Resolves .sledSensor .sledSensor .halt 7 ∧ deep.faults.Resolves .noAdvance .noAdvance .announce 7 := by
  refine ⟨by decide +kernel, by decide +kernel, by decide +kernel, ⟨by decide +kernel, fun h => absurd (h 2 rfl) (by decide +kernel)⟩,
    by decide +kernel, fun h => absurd (h 13 rfl) (by decide +kernel)⟩

/-- A HOLD and a HALT that meet a rotation in each stage, the rotary still turning. -/
theorem witness_ReactionMetAndEnded_rotation :
    ∀ m ∈ [ReactionMsg.hold .sledSensor, .stop .sledSensor], ∀ g ∈ [Stage.turning, .back, .resting],
      let s := rotating { seating with stage := g } (stroke .seating) 139;
      let s : State := { s with mail := { s.mail with reactions := [m] } };
      s.mail.reactions = m :: [] ∧ s.seq.stroke = some (stroke .seating) ∧ s.kelly.rotation = some { seating with stage := g } ∧
      s.ctl.reseat = .idle ∧ s.axes.relief = none ∧ s.axes.rotary.atRest = false ∧ s.sup.inFault .rotarySpeed = false := by decide +kernel

/-- The order rule over the interfaces but interface 0: the motion goes to the next one. -/
theorem witness_OrderRule_some :
    (let ks := rig.members.filter fun k => decide (k ≠ 0);
      let t := hanging.kelly.share rig ks 41;
      t.pos 0 = 500 ∧ (0 : Fin 5) ∉ ks ∧ t.pos 1 = 12041 ∧ t.st 1 = .released) ∧
    State.PositionsInRange rig hanging.kelly := by
  unfold State.PositionsInRange
  decide +kernel

/-! ### Well-formedness and decoding -/

/-- A frame of nine bytes and a raise of vector 22 cannot occur. -/
theorem test_wf_refuses :
    Instr.wf (.requestArrival .console ⟨0x2C0, [0, 0, 0, 0, 0, 0, 0, 0, 0]⟩) = false ∧
    Instr.wf (.envelopeFrame .stability ⟨0x2C4, [0, 0, 0, 0, 0, 0, 0, 0, 0]⟩) = false ∧ Instr.wf (.faultRaise .compound) = false ∧
    Instr.wf (.faultRaise .reactionMissing) = false ∧ Instr.wf (.faultRaise .holdInLost) = true ∧
    Instr.wf (.requestArrival .console ⟨0x2C0, [0, 0, 0, 0, 0, 0, 0, 0]⟩) = true := by decide +kernel

/-- The table gives no row any bits, so no word spells a command. -/
theorem test_decodes_none : decodeTableWord 8 0 = none ∧ State.reset.withFetchWord 8 0 = State.reset := ⟨rfl, rfl⟩

/-! ### The manual's other worked figures -/

/-- The second commit of 01_the_kelly_profile.md 1.9, with the dry weights of 06_drive_limits.md 6.10. -/
theorem test_commit_forms_dry_weights :
    (let t := after (.commitProfile .recorder) (asking .recorder (dem 0x20 0) config);
      t.profile.committed = true ∧ t.limits.dry.sections = #v[some 412, some 353, some 304, some 265, none] ∧ t.limits.dry.tool = some 343 ∧
      t.limits.dry.total = some 1677 ∧ t.links.recorder.queue = [.response ⟨7, .ok, 0x7F00, 0x20, 0, false⟩]) := by decide +kernel

/-- The first commit of 01_the_kelly_profile.md 1.9: S3 mistyped, STATE with value 0x1103. -/
theorem test_commit_names_s3 :
    (let p : Profile := { rig with committed := false, sections := rig.sections.set 2 ⟨some 15000, some 3100, some 400, some 5000, some 12500⟩ };
      let t := after (.commitProfile .recorder) (asking .recorder (dem 0x20 0) { config with profile := p });
      t.profile.committed = false ∧ t.links.recorder.queue = [.response ⟨7, .state, 0x7F00, 0x20, 0x1103, false⟩]) := by decide +kernel

/-- 08_stability_envelope_and_inhibits.md 8.8, four of its rows. -/
theorem test_masks :
    (let a := after (.inhibitWrite .console) (asking .console (ask 1 0x4100 1 65) State.reset);
      a.masks.console = 65 ∧ a.mail.unionAxes = [65] ∧ a.links.console.queue = [.response ⟨7, .ok, 0x4100, 1, 65, false⟩]) ∧
    (let s : State := { State.reset with masks := ⟨65, 4, 1⟩ };
      let b := after (.inhibitClear .console) (asking .console (ask 3 0x4100 1 1) s);
      b.masks.console = 64 ∧ b.union = 69 ∧ b.mail.unionAxes = []) ∧
    (let s : State := { State.reset with masks := ⟨64, 4, 1⟩ };
      let c := after (.registerWriteOther .console) (asking .console (ask 1 0x4100 2 0) s);
      c.masks.stability = 4 ∧
      (after (.inhibitWrite .console) (asking .console (ask 1 0x4100 2 0) s)).links.console.queue = [.response ⟨7, .access, 0x4100, 2, 0, false⟩]) ∧
    (let s : State := { State.reset with masks := ⟨64, 4, 1⟩ };
      let d := after (.inhibitToggle .stability) (asking .stability (ask 4 0x4100 2 4) s);
      d.masks.stability = 0 ∧ d.union = 65 ∧ d.mail.unionSeq = [65]) := by decide +kernel

/-- Measured torque and crowd force (R42, R43): 11.8 bar × 1.92 is 22.7 kNm; 80.0 bar on 250 cm² less 20.0 bar on 120 cm² is 176.0 kN. -/
theorem test_torque_and_crowd_force :
    (after (.rotaryPressureSample .a 118) { deep with kelly := { deep.kelly with pressB := some 0 } }).kelly.torque = some 227 ∧
    (after (.crowdPressureSample .cap 800) { deep with kelly := { deep.kelly with pressRod := some 200 } }).kelly.crowdForce = some 1760 := by
  decide +kernel

/-- R54: a sample of 25,000 mm with the accumulator at 1,000 raises the debt by two and leaves 2,000. -/
theorem test_debt :
    (let t := after (.ropePayoutSample 26000) { lost deep with kelly := { (lost deep).kelly with accumulator := 1000 } };
      t.kelly.debt = 2 ∧ t.kelly.accumulator = 2000) := by decide +kernel

/-- 11_the_links.md 11.3: the fifth request is answered BUSY; a first frame is held. -/
theorem test_request_arrival :
    (after (.requestArrival .console ⟨0x2C0, [9, 1, 0x14, 0x00, 2, 0xFF, 0xFF, 0xFE]⟩) State.reset).links.console.buffer = [⟨9, 1, 0x1400, 2, -2⟩] ∧
    (let s : State := { State.reset with links := State.reset.links.modify .console fun c => { c with buffer := List.replicate 4 (dem 1 0) } };
      (after (.requestArrival .console ⟨0x2C0, [9, 0, 0x10, 0x00, 1, 0, 0, 0]⟩) s).links.console.queue =
        [.response ⟨9, .busy, 0x1000, 1, 0, false⟩]) := by decide +kernel

/-- R140, R141: a fresh frame with a torque above both ratings is clamped to the greater. -/
theorem test_envelope_clamped :
    (after (.envelopeFrame .stability ⟨0x2C4, [42, 1, 0x0B, 0xB9, 0x00, 0x01, 0x12, 0xC1]⟩) deep).env.record =
      some ⟨42, .restricted, 3000, 1, 4800⟩ := by decide +kernel

/-- R149, R155 to R160: a HALT enters service, a second makes COMPOUND, a third LOCKOUT with its record. -/
theorem test_escalation :
    (let a := after (.faultRaise .sledSensor) (raising .sledSensor deep);
      let b := after (.faultRaise .envelopeLost) (raising .envelopeLost a);
      let c := after (.faultRaise .overpull) (raising .overpull b);
      a.faults.state = .reacting ∧ a.mail.orders = [.fastStop] ∧ b.faults.state = .compound ∧ c.faults.state = .lockout ∧
      c.faults.lockoutRecord = some ⟨.sledSensor, some .envelopeLost, .overpull, some 45500⟩ ∧ c.faults.lockoutLine = true) := by decide +kernel

/-- R128 to R130: the channels under a normal stop, a fast stop and a cut. -/
theorem test_channel_orders :
    (let s (o : ChannelOrder) : State := { deep with mail := { deep.mail with orders := [o] } };
      (after .normalStop (s .normalStop)).axes.governor = .normal ∧ (after .fastStop (s .fastStop)).axes.governor = .fast ∧
      (after .cut (s .cut)).axes.governor = .cut ∧ (after .reactionEndedAtChannels (s .ended)).axes.governor = .free) := by decide +kernel

/-- R47: 9,500 mm paid out goes to interface 0 first, then inward. -/
theorem test_order_rule :
    (let t := after (.ropePayoutSample 10500) hanging;
      t.kelly.pos 0 = 9000 ∧ t.kelly.pos 1 = 12500 ∧ t.kelly.pos 2 = 12500 ∧ t.kelly.pos 3 = 10000 ∧ t.toolDepth = some 55000) := by decide +kernel

/-- R58, R59: a HOLD mark crossed in RUN ends a DESCEND with MARK and end state HELD. -/
theorem test_mark :
    (let t := after .markCrossingTest (marked .down .hold (flying descendOrder (stroke .run) deep));
      t.marks[(7 : Fin 8)].state = .reached ∧ (t.seq.stroke.map fun x => (x.outcome, x.endState)) = some (some .mark, .held) ∧
      t.links.recorder.flags = 16) := by decide +kernel

/-- R23 to R25: a seating rotation confirmed in its window engages; one tenth of a degree early it is SEAT_EARLY. -/
theorem test_seating :
    (let s : State := { turning seating 140 with kelly := { (turning seating 140).kelly with interfaces := lockedMap.set 0 ⟨.seating 0, some 500⟩ } };
      (after (.rotaryPressureSample .a 118) s).kelly.st 0 = .engaged 0 ∧ (after (.rotaryPressureSample .a 118) s).kelly.seatSettle = some 1000) ∧
    (let s : State := { turning seating 139 with kelly := { (turning seating 139).kelly with interfaces := lockedMap.set 0 ⟨.seating 0, some 500⟩ } };
      (after (.rotaryPressureSample .a 118) s).mail.raises = [⟨.seatEarly, some 45500, false⟩]) := by decide +kernel

/-- ABORT while the rotary of a confirmed seating comes to rest stops the hoist's TENSION and the crowd's FORCE at once (R75, R128). -/
theorem test_abort_after_confirmation :
    (let s : State := asking .console (dem 4 0) { flying (plain .engage) (stroke .seating) deep with
        kelly := { deep.kelly with rotation := some { seating with stage := .resting } }
        axes := { deep.axes with
          hoist := { deep.axes.hoist with mode := .tension, request := 50 * fine, standing := true, brakeApplied := false }
          crowd := { deep.axes.crowd with mode := .force, request := 300 * fine, standing := true, brakeApplied := false } } };
      (after (.abort .console) s).axes.hoist.request = 0 ∧ (after (.abort .console) s).axes.hoist.mode = .speed ∧
      (after (.abort .console) s).axes.crowd.request = 0 ∧ (after (.abort .console) s).kelly.rotation.isSome = true) := by decide +kernel

/-- The window watch ends with the rotary at rest in RAMP_DOWN, a reaction met or not; a kelly that still turns keeps it (R97). -/
theorem test_window_watch_ends :
    ((after (.rotarySpeedSample 1) (flying hangOrder metInRampDown hanging)).seq.stroke = some { metInRampDown with windowWatch := false }) ∧
    ((after (.rotarySpeedSample 2) (flying hangOrder metInRampDown hanging)).seq.stroke = some metInRampDown) := by decide +kernel

/-- R126: under overload with a request of the other sense a setpoint falls to zero and no further. -/
theorem test_overloaded_falls_to_zero :
    (Channel.ramp 5 (-100) { deep.axes.rotary with setpoint := 3, overload := some 4300 }).setpoint = 0 ∧
    (Channel.ramp 5 100 { deep.axes.rotary with setpoint := -3, overload := some 4300 }).setpoint = 0 ∧
    (Channel.ramp 5 100 { deep.axes.rotary with setpoint := 3, overload := some 4300 }).setpoint = 3 := by decide +kernel

/-- R94: a BORE taken while its rotary still turns at the working speed ends RAMP_UP at the report of it. -/
theorem test_carried_speed_ends_ramp_up :
    (let t := after (.start .console) (asking .console (dem 1 0) (handed boreOrder (spinning 0 100 none false)));
      t.seq.stroke.map Stroke.phase = some .rampUp ∧ t.axes.rotary.reached = true ∧
      (after (.setpointReachesRequest .rotary) t).seq.stroke.map Stroke.phase = some .advance) := by decide +kernel

/-- R42, R135: while the gear is unknown no stall is detected: its loss stops the stall timer. -/
theorem test_lost_gear_stops_the_stall_timer :
    stalling.stalled = true ∧ (after (.gearConfirmSample (some .high)) stalling).axes.stallTimer = none ∧
    (after (.gearConfirmSample (some .high)) stalling).kelly.torque = none := by decide +kernel

/-- R101: a DWELL whose time runs out ends DONE. -/
theorem test_dwell :
    ((after .dwellTimeExpiry (flying dwellOrder { stroke .wait with dwell := some 0 } deep)).seq.stroke.map fun x => x.outcome) =
      some (some .done) := by decide +kernel

/-- R142, R143: the two envelope timers. -/
theorem test_envelope_timers :
    (after .freshnessTimerExpiry { deep with env := { deep.env with freshTimer := some 0 } }).env.freshness = .stale ∧
    (after .lossTimerExpiry { deep with env := { deep.env with freshness := .stale, lossTimer := some 0 } }).mail.raises =
      [⟨.envelopeLost, some 45500, false⟩] := by decide +kernel

/-- R153: in CONFIG a raise of a vector whose UNCOMMITTED descriptor is present resolves to REACTION_MISSING, at all links. -/
theorem test_uncommitted_table :
    (let t := after (.faultRaise .sledSensor) (raising .sledSensor { State.reset with faults := { deep.faults with committed := false } });
      t.faults.lastFault = some ⟨.sledSensor, .halt, some 45500⟩ ∧ t.links.recorder.flags = 1 ∧ t.faults.state = .clear) := by decide +kernel

/-- R35: a rotation begun after the fault entered service is interrupted when its reaction meets the stroke, and decided at rest. -/
theorem test_rotation_decided_late :
    (let s := rotating seating (stroke .seating) 139;
      let a := after .reactionAtSequencer { s with mail := { s.mail with reactions := [.stop .sledSensor] } };
      a.kelly.rotation = some { seating with interrupted := true } ∧
      (after (.rotarySpeedSample 0) a).kelly.rotation = none ∧ (after (.rotarySpeedSample 0) a).kelly.st 0 = .aligned 0) := by decide +kernel

/-- The step takes the front command; an empty queue lets a millisecond pass. -/
theorem test_step :
    step { State.reset with pending := [.resetInputChange false] } = .next { State.reset with resetLine := some false } := rfl

/-! ### Witnesses: demands, samples, marks and parks with a stroke in flight -/

/-- RESUME in HELD and in FAULTED on a UNIT-owned entry that may begin. -/
theorem witness_StrokeBegins_resume :
    (asking .console (dem 3 0) deep).demands .console 3 (dem 3 0) [] ∧
    (∀ st ∈ [SeqState.held, .faulted],
      let s : State := { handed dwellOrder deep with seq := ⟨st, 0, none⟩ };
      (s.seq.state = .held ∨ s.seq.state = .faulted) ∧ s.faults.state = .clear ∧ s.ring[s.seq.next].owner = .unit ∧
      s.ring[s.seq.next].order = dwellOrder ∧ s.kelly.rotation = none ∧ s.ctl.reseat = .idle ∧ s.axes.relief = none ∧
      s.axes.governor = .free) ∧
    deep.Passes dwellOrder :=
  ⟨⟨⟨rfl, rfl⟩, rfl, rfl, rfl⟩, by decide +kernel, passes (by decide +kernel)⟩

/-- A BORE in ADVANCE and a seating rotation that turns keep the map at the next sample; a CROWD_DOWN that is closed does too. -/
theorem witness_ToolLoadAndTob_flying :
    (flying boreOrder (stroke .advance) deep).HoldsMap ∧ (turning seating 140).HoldsMap ∧
    (flying (plain .release) { stroke .crowdDown with closed := true } deep).HoldsMap ∧
    (after .limitRecomputation deepDue).limits.set.wTotal = some 1470 := by
  refine ⟨⟨(flying_noNest deep (by decide) rfl).1, nofun, ?_⟩, ⟨?_, ?_, ?_⟩, ⟨?_, nofun, ?_⟩, by decide +kernel⟩
  · rintro x ⟨⟩; exact .inr (.inr (by decide))
  · rintro x ⟨⟩; exact .inr (.inr (by decide))
  · rintro r ⟨⟩; rfl
  · rintro x ⟨⟩; exact .inr (.inr (by decide))
  · rintro x ⟨⟩; exact .inl rfl
  · rintro x ⟨⟩; exact .inl rfl

/-- The restrained kelly with a BORE in flight, its spring-back one step short of seat − tol and at it; a SURVEY in RAISE. -/
theorem witness_RotarySamples_flying :
    (let s := flying boreOrder (stroke .advance) restrained;
      s.Restrained ∧ s.kelly.rotation = none ∧ s.ctl.reseat = .idle ∧ s.ctl.mode ≠ .parked ∧ s.kelly.angle = some 140 ∧
      s.kelly.springBack + (140 - 1) < fig s.profile.kelly.seatAngle - fig s.profile.kelly.seatTol ∧
      fig s.profile.kelly.seatAngle - fig s.profile.kelly.seatTol ≤ s.kelly.springBack + (140 - 0) ∧
      (∀ y, s.seq.stroke = some y → y.phase ≠ .unseat ∧ y.phase ≠ .raise)) ∧
    (let s := flying (plain .survey) (stroke .raise) (lost deep);
      s.kelly.rotation = none ∧ s.kelly.angle = none ∧ ¬ ∀ y, s.seq.stroke = some y → y.phase ≠ .unseat ∧ y.phase ≠ .raise) := by
  refine ⟨⟨⟨⟨0, by decide +kernel, 0, by decide +kernel⟩, rfl, 299, rfl, by decide +kernel⟩, rfl, rfl, by decide +kernel, rfl, by decide +kernel,
    by decide +kernel, ?_⟩, rfl, rfl, fun h => (h _ rfl).2 rfl⟩
  rintro y ⟨⟩
  decide

/-- A pass on the parked kelly, its datum 50 mm and 51 mm from the reference, the chain locked. -/
theorem witness_ParkWatchAndReseat_datum :
    ∀ v ∈ ([29050, 29051] : List Int),
      let p := parkedAt .idle deep;
      let s : State := { p with profile := { rig with machine := { rig.machine with rDatum := some v } }, kelly := { p.kelly with datumState := some false } };
      s.ctl.mode = .parked ∧ s.ctl.park = some ⟨.latch, ⟨some 29000, some 5000, some 100⟩⟩ ∧ s.seq.stroke = none ∧ s.kelly.rotation = none ∧
      s.ctl.reseat = .idle ∧ s.kelly.known = true ∧ s.kelly.datumState = some false ∧ s.kelly.ropeDepth = some 29000 ∧
      s.unplaced = some 0 ∧ s.chainEngaged = true ∧ fig s.profile.machine.rDatum = v ∧ magnitude (0 + (v - 29000)) ≤ 100 ∧
      magnitude (29050 - 29000) = 50 ∧ magnitude (29051 - 29000) = 51 ∧ (parkedAt .idle deep).kelly.datumState ≠ some false := by
  decide +kernel

/-- A crowd in FORCE at its request of 30.0 kN, the hoist and the rotary BRAKED. -/
def pressing : State :=
  let s := crowding (300 * fine) (grounded deep)
  { s with axes := { s.axes with crowd := { s.axes.crowd with request := 300 * fine, reached := true } } }

/-- The phases of a PARK: a sled 5 mm and 6 mm from 0, inhibited and not, 5 mm and 4 mm nearer than its reference; the last brake timer of
BRAKE and of HOLD_IN run out; the crowd at its request with the other channels BRAKED, and moving. -/
theorem witness_StrokeEndings_park :
    (∀ b ∈ [false, true],
      let x := { stroke .sledUp with inhibited := b, sledWatch := some 1, sledRef := 11 };
      let s := flying stowOrder x perched;
      s.seq.stroke = some x ∧ s.ring[x.index].order.kind = .park ∧ x.closed = false ∧ x.met = false ∧ x.outcome = none ∧
      s.kelly.rotation = none ∧ s.ctl.reseat = .idle ∧ s.axes.relief = none ∧ s.ctl.mode ≠ .parked ∧ s.axes.governor = .free ∧
      (∀ z ∈ ([5, 6, 7] : List Int), 0 ≤ z ∧ z ≤ fig s.profile.machine.sledTravel) ∧
      magnitude 11 - magnitude 6 = 5 ∧ magnitude 11 - magnitude 7 = 4) ∧
    (let s := flying stowOrder (stroke .brake) perched;
      let s : State := { s with axes := { s.axes with hoist := { s.axes.hoist with mode := .speed, brake := some 0 } } };
      s.axes.hoist.brake = some 0 ∧ s.axes.keptTension = none ∧ s.axes.crowd.mode = .braked ∧ s.axes.rotary.mode = .braked) ∧
    (let s := flying latchOrder (stroke .holdIn) pressing;
      (stroke .holdIn).phase = .holdIn ∧ s.axes.crowd.reached = true ∧ s.axes.crowd.setpoint = s.goal .crowd ∧ s.axes.crowd.mode = .force ∧
      s.axes.hoist.mode = .braked ∧ s.axes.rotary.mode = .braked ∧ (hoisting s).axes.hoist.mode ≠ .braked) := by
  decide +kernel

/-- An inhibited stroke of every kind in its motion phase at a mark that ends it, END_STROKE and HOLD. -/
theorem witness_MarkCrossing_inhibited :
    ∀ o ∈ [(descendOrder, Phase.run), (hoistOrder, .run), (boreOrder, .advance), (hangOrder, .rampUp), (plain .sled, .move), (spinOrder, .turnCw),
      (dwellOrder, .wait)], ∀ a ∈ [MarkAction.endStroke, .hold],
      let x := { stroke o.2 with inhibited := true };
      let s := marked .down a (flying o.1 x deep);
      s.seq.stroke = some x ∧ x.inMotion = true ∧ x.inhibited = true ∧ s.kelly.rotation = none ∧ s.ctl.reseat = .idle ∧
      s.marks[(7 : Fin 8)].action = a ∧ s.axes.governor = .free ∧ s.ctl.latchRequest = false := by decide +kernel

/-- A stroke in GEAR, its order gear LOW confirmed at the end of its shift, of the shift asked for again while it ran, out of a shift PENDING
and out of none; a BORE in either mode and a SPIN, inhibited or not; a HANGING BORE with a W_total; a shift to the other gear that ends first;
the shift time run out; a gear lost while the shift is PENDING. -/
theorem witness_GearSamplesAndShifts_flying :
    (∀ o ∈ [boreOrder, hangOrder, spinOrder], ∀ i ∈ [false, true],
      ∀ p ∈ [(Shift.shifting Gear.low, none), (.shifting .low, some Gear.low), (.pending .low, none), (.idle, none)],
      let x := { stroke .gear with inhibited := i, rotarySpeed := 100 };
      let s := flying o x (loaded 1470 2000 { deep with axes := { deep.axes with
        gear := none, shift := p.1, queuedShift := p.2, limits := { deep.axes.limits with hoistLine := 50 } } });
      s.seq.stroke = some x ∧ x.phase = .gear ∧ x.closed = false ∧ x.met = false ∧ s.kelly.rotation = none ∧ s.ctl.reseat = .idle ∧
      s.axes.relief = none ∧ s.axes.governor = .free ∧ s.ctl.latchRequest = false ∧ 50 ≤ s.axes.limits.hoistLine ∧
      s.ring[x.index].order.gear = some .low ∧ s.limits.set.wTotal = some 1470 ∧
      ((s.axes.shift = .shifting .low ∧ (s.axes.queuedShift = none ∨ s.axes.queuedShift = some .low)) ∨
        (s.axes.gear = none ∧ (s.axes.shift = .idle ∨ s.axes.shift = .pending .low)))) ∧
    (boreOrder.isLocked = true ∧ hangOrder.isHanging = true ∧ hangOrder.downforce = some 200 ∧ spinOrder.kind = .spin ∧
      boreOrder.isHanging = false) ∧
    (let s : State := flying boreOrder (stroke .gear) { deep with axes := { deep.axes with
        gear := none, shift := .shifting .high, queuedShift := some .low, shiftTimer := some 0 } };
      s.axes.shift = .shifting .high ∧ s.axes.queuedShift = some .low ∧ Gear.low ≠ .high ∧ (none : Option Gear) ≠ some .high ∧
      s.axes.shiftTimer = some 0 ∧ s.axes.gear = none) ∧
    (let s := flying boreOrder (stroke .gear) (geared (some .high) (.pending .low) none);
      (∀ g, s.axes.shift ≠ .shifting g) ∧ s.axes.gear = some .high ∧ (none : Option Gear) ≠ some .high ∧ s.axes.shift = .pending .low ∧
      s.axes.rotary.mode = .braked ∧ holds s.axes.union .gearShift = false ∧ s.axes.governor = .free) ∧
    (let s := flying boreOrder (stroke .gear) (geared none (.pending .low) none);
      (∀ g, s.axes.shift ≠ .shifting g) ∧ s.axes.gear = none) := by
  refine ⟨by decide +kernel, by decide +kernel, by decide +kernel, ⟨nofun, by decide +kernel⟩, nofun, rfl⟩

/-- A DESCEND and a HOIST in RAMP_DOWN with the winch setpoint zero and not; a RELEASE in CROWD_DOWN with the crowd setpoint zero and not,
inhibited or not. -/
theorem witness_StrokeEndings_atZero :
    (∀ o ∈ [descendOrder, hoistOrder], ∀ v ∈ ([0, 1] : List Int),
      let x := { stroke .rampDown with outcome := some .target };
      let s := flying o x hanging;
      let s : State := { s with axes := { s.axes with hoist := { s.axes.hoist with mode := .speed, setpoint := v, reached := true } } };
      s.seq.stroke = some x ∧ x.phase = .rampDown ∧ x.closed = false ∧ x.met = false ∧ x.outcome ≠ none ∧ s.kelly.rotation = none ∧
      s.ctl.reseat = .idle ∧ s.axes.relief = none ∧ s.ctl.mode ≠ .parked ∧ s.axes.hoist.reached = true ∧ s.axes.hoist.setpoint = v ∧
      (s.ring[x.index].order.kind = .descend ∨ s.ring[x.index].order.kind = .hoist)) ∧
    (∀ i ∈ [false, true], ∀ v ∈ ([0, 1] : List Int),
      let x := { stroke .crowdDown with inhibited := i };
      let s := flying (plain .release) x (crowding v (grounded deep));
      let s : State := { s with axes := { s.axes with crowd := { s.axes.crowd with reached := true } } };
      s.seq.stroke = some x ∧ x.phase = .crowdDown ∧ x.closed = false ∧ x.met = false ∧ s.kelly.rotation = none ∧ s.ctl.reseat = .idle ∧
      s.axes.relief = none ∧ s.axes.crowd.reached = true ∧ s.axes.crowd.setpoint = v ∧ s.axes.governor = .free ∧
      s.ctl.latchRequest = false ∧ s.kelly.st 0 = .engaged 0) := by decide +kernel

/-- A relief turn in each stage, in RAMP_UP and in ADVANCE: the speed at its edges; the angle turned at half the seat angle of 18.0° and one
tenth short, and at 90.0° and one tenth short. -/
theorem witness_SamplesAtStroke_relief :
    (∀ o ∈ [boreOrder, hangOrder], ∀ p ∈ [Phase.rampUp, .advance], ∀ g ∈ [ReliefStage.stopping, .turning, .unwinding],
      let x := { stroke p with rotarySpeed := 100 };
      let s := flying o x { deep with axes := { deep.axes with relief := some ⟨g, some 1000⟩ } };
      s.seq.stroke = some x ∧ x.boring = true ∧ s.axes.relief = some ⟨g, some 1000⟩ ∧ s.kelly.rotation = none ∧ s.ctl.reseat = .idle ∧
      s.ctl.mode ≠ .parked ∧ s.axes.rotary.atRest = false ∧ s.sup.inFault .rotarySpeed = false ∧ s.axes.governor = .free ∧
      fig s.profile.kelly.seatAngle = 180) ∧
    (180 : Int) ≤ 2 * (1000 - 910) ∧ ¬ (180 : Int) ≤ 2 * (1000 - 911) ∧ (900 : Int) ≤ 1000 - 100 ∧ ¬ (900 : Int) ≤ 1000 - 101 ∧
    ((-2 : Int) < -1 ∧ (1 : Int) < 2 ∧ (-999 : Int) ≤ -2 ∧ (2 : Int) ≤ 999) := by decide +kernel

/-- A RELEASE on the locked kelly with the crowd BRAKED, in FORCE at zero and at its bound, and in POSITION at zero and at its bound; a LATCH
park with every condition met at once, with the crowd not yet at its request, and with the hoist not BRAKED. -/
theorem witness_StrokeBegins_atZero :
    (∀ p ∈ ([(.braked, 0), (.force, 0), (.force, 1836), (.position, 0), (.position, 1000)] : List (ChannelMode × Int)),
      let s := crowding (p.2 * fine) (grounded deep);
      let s : State := { s with axes := { s.axes with crowd := { s.axes.crowd with mode := p.1 } } };
      s.MayBegin (plain .release) ∧ s.axes.crowd.mode = p.1 ∧ (s.bounds .crowd).1 ≤ s.axes.crowd.setpoint ∧
      s.axes.crowd.setpoint ≤ (s.bounds .crowd).2 ∧
      ((after (.start .console) (asking .console (dem 1 0) (handed (plain .release) s))).axes.crowd.setpoint = 0 ↔ p.2 = 0)) ∧
    (∀ s ∈ [pressing, crowding 0 (grounded deep), hoisting pressing], s.MayBegin latchOrder) ∧
    (pressing.axes.hoist.mode = .braked ∧ pressing.axes.rotary.mode = .braked ∧ (hoisting pressing).axes.hoist.mode ≠ .braked) ∧
    (let t := after (.start .console) (asking .console (dem 1 0) (handed latchOrder pressing));
      t.axes.crowd.setpoint = t.goal .crowd) ∧
    (let t := after (.start .console) (asking .console (dem 1 0) (handed latchOrder (crowding 0 (grounded deep))));
      t.axes.crowd.setpoint ≠ t.goal .crowd) := by
  simp only [← State.startReason_none_iff]
  decide +kernel

/-- A SURVEY in RAISE that its stuck watch has failed, at the nest position with the hoist at rest. -/
def failedSurvey : State := after .stuckWatchExpiry { lifted 7500 with
  seq := ⟨.running, 0, some { stroke .raise with raiseStopping := true, stuckWatch := some 0 }⟩ }

theorem witness_SurveyRuns_failed :
    ∃ x, failedSurvey.seq.stroke = some x ∧ x.phase = .raise ∧ x.closed = true ∧ failedSurvey.kelly.rotation = none ∧
      failedSurvey.ctl.reseat = .idle ∧ failedSurvey.axes.relief = none ∧ failedSurvey.ctl.mode ≠ .parked ∧
      failedSurvey.kelly.known = false := ⟨(failedSurvey.seq.stroke).getD (stroke .raise), by decide +kernel⟩

/-- R171: after its stuck watch has expired a SURVEY reaches no NEST; the model stays UNKNOWN and the reaction completes it HELD_BY_FAULT. -/
theorem test_failed_survey_reaches_no_nest :
    (after (.topStopSample true) failedSurvey).kelly.known = false ∧
    (after (.rotarySpeedSample 0) failedSurvey).seq.stroke.map Stroke.phase = some .raise ∧
    (after .reactionAtSequencer (after (.faultRaise .surveyFailed) failedSurvey)).seq.stroke.map (fun x => (x.outcome, x.endState)) =
      some (some .heldByFault, .held) := by decide +kernel

end Sys2Proof.Tests
end

section
/-! SUPPORT. The limit computer's family (06_drive_limits.md): what a recomputation forms and hands on (R106), the members of the kelly and
the smallest value over them, the terms of a known model (R107 to R115), the HOLD_IN_LOST latch (R119), and the statements settled with
them. -/
namespace Sys2Proof.Machine

/-! ### The recomputation (R106, R119) -/

/-- R119's condition in the set the inputs give as they stand: the chain is fully engaged, no seat settle time runs, and the push limit is
below the hold-in force. -/
def State.lacksHoldIn (s : State) : Bool :=
  s.chainEngaged && s.kelly.seatSettle.isNone && decide (s.formSet.push < s.profile.holdIn)

theorem State.lacksHoldIn_iff (s : State) :
    s.lacksHoldIn = true ↔
      (s.chainEngaged = true ∧ s.kelly.seatSettle = none) ∧ s.formSet.push < fig s.profile.kelly.holdIn := by
  rw [State.lacksHoldIn, Bool.and_eq_true, Bool.and_eq_true, Option.isNone_iff_eq_none, decide_eq_true_iff, Profile.holdIn]

/-- The HOLD_IN_LOST test on a formed set: the set stays, the latch shows R119's condition, and a raise joins the raises only where a CLEAR
latch becomes SET. -/
theorem State.testHoldIn_formed (s : State) :
    let t := (s.onLimits fun m => { m with set := s.formSet }).testHoldIn
    t.limits.set = s.formSet ∧ t.limits.holdInLost = s.lacksHoldIn ∧
      t.mail.raises = s.mail.raises ++
        if s.lacksHoldIn = true ∧ s.limits.holdInLost = false then [⟨.holdInLost, s.toolDepth, false⟩] else [] := by
  have hc : (s.onLimits fun m => { m with set := s.formSet }).chainEngaged = s.chainEngaged := rfl
  have hd : (s.onLimits fun m => { m with set := s.formSet }).toolDepth = s.toolDepth := rfl
  by_cases tested : (s.chainEngaged && s.kelly.seatSettle.isNone) = true
  · by_cases low : s.formSet.push < s.profile.holdIn
    · cases latch : s.limits.holdInLost <;>
        simp [State.testHoldIn, State.lacksHoldIn, State.raise, State.raiseAt, hc, hd, tested, low, latch]
    · simp [State.testHoldIn, State.lacksHoldIn, hc, tested, low]
  · simp [State.testHoldIn, State.lacksHoldIn, hc, tested]

/-- A recomputation takes its trigger, leaves the set the inputs give, and makes the HOLD_IN_LOST test on it. -/
theorem exec_limitRecomputation {s : State} {g : Trigger} {rest : List Trigger} (h : s.mail.triggers = g :: rest) :
    ∃ t, exec .limitRecomputation s = .next t ∧ t.limits.set = s.formSet ∧ t.limits.holdInLost = s.lacksHoldIn ∧
      t.mail.raises = s.mail.raises ++
        if s.lacksHoldIn = true ∧ s.limits.holdInLost = false then [⟨.holdInLost, s.toolDepth, false⟩] else [] := by
  have taken : s.takeTrigger = (s.onMail fun m => { m with triggers := rest }).recompute := by
    simp only [State.takeTrigger, h]
  exact ⟨s.takeTrigger, rfl, by rw [taken]; exact (s.onMail fun m => { m with triggers := rest }).testHoldIn_formed⟩

@[simp] theorem State.formSet_known {s : State} (h : s.kelly.known = true) : s.formSet = s.knownSet := by
  simp [State.formSet, h]

theorem State.known_of_chainEngaged {s : State} (h : s.chainEngaged = true) : s.kelly.known = true := by
  simp only [State.chainEngaged, Bool.and_eq_true] at h
  exact h.1

/-! ### Members of the kelly and values over them -/

/-- The first m of five indexes are those below m. -/
theorem take_finRange_five (m : Nat) : (List.finRange 5).take m = (List.finRange 5).filter fun k => k.val < m := by
  by_cases h : m < 5
  · interval_cases m <;> decide
  · rw [List.take_of_length_le (by simp; omega), List.filter_eq_self.mpr fun k _ => by simp; omega]

theorem Profile.mem_members {p : Profile} {k : Fin 5} : k ∈ p.members ↔ k.val < p.count := by
  simp [Profile.members]

/-- The first m members, for an m within the count, are the sections below m. -/
theorem Profile.take_members {p : Profile} {m : Nat} (h : m ≤ p.count) : p.members.take m = (List.finRange 5).take m := by
  rw [Profile.members, ← take_finRange_five, List.take_take, Nat.min_eq_left h]

theorem Profile.take_members_count (p : Profile) : p.members.take p.count = p.members := by
  rw [Profile.take_members (Nat.le_refl _), take_finRange_five, Profile.members]

theorem Profile.getElem_perSection (p : Profile) (f : Fin 5 → Int) (k : Fin 5) :
    (p.perSection f)[k] = if k.val < p.count then some (f k) else none := by
  simp [Profile.perSection]

theorem Profile.toList_perSection (p : Profile) (f : Fin 5 → Int) :
    (p.perSection f).toList = (List.finRange 5).map fun k => if k.val < p.count then some (f k) else none := by
  rw [Profile.perSection, Vector.toList_ofFn, List.ofFn_eq_map]

/-- `least` of a list that is not empty is one of its values, and none is smaller. -/
theorem least_spec : ∀ {xs : List Int}, xs ≠ [] → least xs ∈ xs ∧ ∀ x ∈ xs, least xs ≤ x
  | x :: xs, _ => List.min?_eq_some_iff.mp (List.min?_cons' (x := x) (xs := xs))

/-- Over the members of a kelly with a section, `least` forms the smallest value. -/
theorem Profile.smallest_least {p : Profile} (h : 0 < p.count) (f : Fin 5 → Int) :
    Smallest p.count f (least (p.members.map f)) := by
  have hne : p.members.map f ≠ [] := List.ne_nil_of_mem (List.mem_map_of_mem ((Profile.mem_members (k := 0)).mpr h))
  obtain ⟨hmem, hle⟩ := least_spec hne
  obtain ⟨k, hk, hv⟩ := List.mem_map.mp hmem
  exact ⟨fun j hj => hle _ (List.mem_map_of_mem (Profile.mem_members.mpr hj)), k, Profile.mem_members.mp hk, hv.symm⟩

theorem Smallest.congr {n : Nat} {f g : Fin 5 → Int} {v : Int} (hfg : ∀ k : Fin 5, k.val < n → f k = g k)
    (h : Smallest n f v) : Smallest n g v := by
  obtain ⟨hle, k, hk, hv⟩ := h
  exact ⟨fun j hj => hfg j hj ▸ hle j hj, k, hk, hfg k hk ▸ hv⟩

/-! ### The terms of a known model (R107 to R115) -/

/-- The running sums a known model's set shows are those its terms are formed with (R108). -/
theorem State.knownSet_cumWeight {s : State} {m : Nat} (h : m ≤ s.profile.count) : s.knownSet.cumWeight m = s.cumWeight m := by
  simp only [LimitSet.cumWeight, State.cumWeight, State.knownSet, Profile.toList_perSection, Profile.take_members h, ← List.map_take,
    List.map_map]
  congr 1
  refine List.map_congr_left fun k hk => ?_
  rw [take_finRange_five, List.mem_filter, decide_eq_true_iff] at hk
  simp [Nat.lt_of_lt_of_le hk.2 h, fig]

theorem State.formTotal_eq (s : State) : s.formTotal = s.cumWeight s.profile.count + s.toolWeight := by
  rw [State.formTotal, State.cumWeight, Profile.take_members_count]

/-- The structural push margin is the smallest A_k − cumW_k of the set, not below 0.0 (R111). -/
theorem State.pushMargin_smallest {s : State} (h : 0 < s.profile.count) :
    ∃ v, Smallest s.profile.count (fun k => fig s.profile.interfaces[k].push - s.knownSet.cumWeight k.val) v ∧
      s.pushMargin = max 0 v :=
  ⟨_, (Profile.smallest_least h _).congr fun _ hk => by rw [State.knownSet_cumWeight (Nat.le_of_lt hk)], rfl⟩

/-- The structural pull margin is the smallest U_k + cumW_k of the set (R115). -/
theorem State.pullMargin_smallest {s : State} (h : 0 < s.profile.count) :
    Smallest s.profile.count (fun k => fig s.profile.interfaces[k].pull + s.knownSet.cumWeight k.val) s.pullMargin :=
  (Profile.smallest_least h _).congr fun _ hk => by rw [State.knownSet_cumWeight (Nat.le_of_lt hk)]

/-- The record is in use while the envelope is FRESH (R113). -/
theorem Envelope.current_of_fresh {e : Envelope} (h : e.freshness = .fresh) : e.current = e.record := by
  simp [Envelope.current, h]

theorem Envelope.current_eq_none {e : Envelope} (h : e.freshness ≠ .fresh ∨ e.record = none) : e.current = none := by
  rcases h with h | h <;> simp [Envelope.current, h]

/-- The envelope terms of a record in use: its values within the ratings (R113). -/
theorem State.envelopeTerms_of_record {s : State} {r : EnvRecord} (h : s.env.current = some r) :
    s.ePush = min r.push (fig s.profile.machine.cMax) ∧ s.ePull = min r.pull (fig s.profile.machine.pMax) ∧
      s.eTorque = r.torque := by
  simp [State.ePush, State.ePull, State.eTorque, h]

/-- The envelope terms without a record in use: the fallback share of the ratings (R113). -/
theorem State.envelopeTerms_fallback {s : State} (h : s.env.current = none) :
    s.ePush = fig s.profile.kelly.fallback * fig s.profile.machine.cMax / 100 ∧
      s.ePull = fig s.profile.kelly.fallback * fig s.profile.machine.pMax / 100 ∧
      s.eTorque = fig s.profile.kelly.fallback * fig s.profile.machine.torqueLow / 100 := by
  simp [State.ePush, State.ePull, State.eTorque, h, percent]

/-! ### A STOP (R113, R114, R116) -/

theorem State.stopped_of_record {s : State} {r : EnvRecord} (hr : s.env.record = some r) (hstop : r.state = .stop) :
    s.stopped = true := by
  simp [State.stopped, Envelope.stability, hr, hstop]

theorem State.torqueLimit_of_stopped {s : State} (h : s.stopped = true) : s.torqueLimit = 0 := by
  simp only [State.torqueLimit, h]
  split <;> rfl

theorem State.pushAfterDebt_of_stopped {s : State} (h : s.stopped = true) : s.pushAfterDebt = 0 := by
  simp [State.pushAfterDebt, State.pushAfterStop, h]

/-- Under a STOP no push passes, unless a seat settle time runs with a hold-in force below 0.0. -/
theorem State.pushLimit_of_stopped {s : State} (h : s.stopped = true)
    (hs : s.kelly.seatSettle = none ∨ 0 ≤ s.profile.holdIn) : s.pushLimit = 0 := by
  have settled : s.pushAfterSettle = 0 := by
    rw [State.pushAfterSettle, State.pushAfterDebt_of_stopped h]
    rcases hs with hs | hs <;> simp [hs]
  simp [State.pushLimit, settled]

/-! ### The statements -/

/-- Settles O45. The set left is that of the known model; each term is its rule's formula, the sums over the members read back from the set
itself. -/
theorem limitTermsFormed : Obligations.LimitTermsFormed := by
  intro s d hd g rest hg hknown hcount p rho level fraction weight
  obtain ⟨t, hexec, hset, -, -⟩ := exec_limitRecomputation hg
  rw [State.formSet_known hknown] at hset
  refine ⟨t, hexec, ?_⟩
  simp only [hset]
  have depth : fig s.toolDepth = d := by rw [hd]; rfl
  refine ⟨?sections, ?above, ?toolFraction, ?toolWeight, ?total, ?push, ?pull, ?free, rfl, ?record, ?fallback, ?stop, rfl⟩
  case sections =>
    intro k b hk hb
    have bottom : fig (s.sectionBottom k) = b := by rw [hb]; rfl
    subst bottom
    exact ⟨(Profile.getElem_perSection ..).trans (if_pos hk), (Profile.getElem_perSection ..).trans (if_pos hk)⟩
  case above =>
    intro k hk
    have outside : ¬ k.val < s.profile.count := Nat.not_lt.mpr hk
    exact ⟨(Profile.getElem_perSection ..).trans (if_neg outside), (Profile.getElem_perSection ..).trans (if_neg outside)⟩
  case toolFraction => subst depth; rfl
  case toolWeight => subst depth; rfl
  case total =>
    rw [State.knownSet_cumWeight (Nat.le_refl _)]
    exact congrArg some s.formTotal_eq
  case push =>
    obtain ⟨v, hv, hm⟩ := State.pushMargin_smallest hcount
    exact ⟨v, hv, congrArg some hm⟩
  case pull => exact ⟨s.pullMargin, State.pullMargin_smallest hcount, rfl⟩
  case free => subst depth; rfl
  case record =>
    intro r hfresh hr
    obtain ⟨hpush, hpull, htorque⟩ := State.envelopeTerms_of_record ((Envelope.current_of_fresh hfresh).trans hr)
    exact ⟨congrArg some hpush, congrArg some hpull, congrArg some htorque⟩
  case fallback =>
    intro h
    obtain ⟨hpush, hpull, htorque⟩ := State.envelopeTerms_fallback (Envelope.current_eq_none h)
    exact ⟨congrArg some hpush, congrArg some hpull, congrArg some htorque⟩
  case stop =>
    intro r hr hstop
    have stopped := State.stopped_of_record hr hstop
    exact ⟨State.torqueLimit_of_stopped stopped, fun held => State.pushLimit_of_stopped stopped (.inr held)⟩

/-- Settles O46. The latch left is R119's condition on the set formed, row by row of its table; an UNKNOWN model has no engaged chain. -/
theorem holdInLostTest : Obligations.HoldInLostTest := by
  refine ⟨fun s g rest hg => ?_, fun s => ⟨⟨_, rfl, rfl⟩, fun hline => ⟨_, rfl, ?reset⟩⟩⟩
  case reset => simp [State.sampleReset, hline, State.unitReset]
  obtain ⟨t, hexec, hset, hlatch, hraises⟩ := exec_limitRecomputation hg
  refine ⟨t, hexec, ?_⟩
  intro low tested
  have hlost : s.lacksHoldIn = true ↔ tested ∧ low := by
    simp only [low, tested, hset]
    exact s.lacksHoldIn_iff
  have clear (h : ¬ (tested ∧ low)) : t.mail.raises = s.mail.raises ∧ t.limits.holdInLost = false := by
    have : s.lacksHoldIn = false := Bool.eq_false_iff.mpr (mt hlost.mp h)
    simp [hraises, hlatch, this]
  refine ⟨?becomesSet, ?staysSet, fun _ hn => clear fun h => hn h.2, fun hn => clear fun h => hn h.1, ?unknown, ?stop⟩
  case becomesSet =>
    intro ht hl hwas
    simp [hraises, hlatch, hlost.mpr ⟨ht, hl⟩, hwas]
  case staysSet =>
    intro ht hl hwas
    simp [hraises, hlatch, hlost.mpr ⟨ht, hl⟩, hwas]
  case unknown =>
    intro hunknown
    refine (clear fun h => ?_).2
    obtain ⟨⟨hchain, -⟩, -⟩ := h
    simp [State.known_of_chainEngaged hchain] at hunknown
  case stop =>
    rintro ⟨hchain, hsettle⟩ ⟨r, hr, hstop⟩
    rw [hset, State.formSet_known (State.known_of_chainEngaged hchain)]
    exact State.pushLimit_of_stopped (State.stopped_of_record hr hstop) (.inl hsettle)

end Sys2Proof.Machine
end
